-- ==== Sys2Proof/Word.lean ====
section
/-! DEFINITION. The two word widths of the core and the names the opcode fields select (30_encoding.md R113 to R119).
Everything computed from them stands in `Machine/Bits.lean` and `Decode.lean`. -/

namespace Sys2Proof

/-- A `u8` (00_scope.md R11). -/
abbrev Byte := BitVec 8

/-- A `u16` (00_scope.md R11). -/
abbrev Word := BitVec 16

/-- The 8-bit operands in the index order of `r8` (30_encoding.md R114); `atHL` is the byte at the address in HL (R115). -/
inductive R8 where
  | b | c | d | e | h | l | atHL | a
  deriving DecidableEq, Repr

/-- The register pairs of `r16` (30_encoding.md R116). -/
inductive R16 where
  | bc | de | hl | sp
  deriving DecidableEq, Repr

/-- The register pairs of the stack forms, `r16stk` (30_encoding.md R117). -/
inductive R16Stk where
  | bc | de | hl | af
  deriving DecidableEq, Repr

/-- The address selectors of `r16mem` (30_encoding.md R118). -/
inductive R16Mem where
  | bc | de | hlInc | hlDec
  deriving DecidableEq, Repr

/-- The conditions (30_encoding.md R119). -/
inductive Cond where
  | nz | z | nc | c
  deriving DecidableEq, Repr

/-- The operations of the field `aluop` (30_encoding.md R113). -/
inductive AluOp where
  | add | adc | sub | sbc | and | xor | or | cp
  deriving DecidableEq, Repr

/-- The operations of the field `rot` (30_encoding.md R113). -/
inductive RotOp where
  | rlc | rrc | rl | rr | sla | sra | swap | srl
  deriving DecidableEq, Repr

/-- A three-bit index: the bit number `b3` (30_encoding.md R126) or the RST target `tgt3` (R125). -/
inductive Ix3 where
  | i0 | i1 | i2 | i3 | i4 | i5 | i6 | i7
  deriving DecidableEq, Repr

end Sys2Proof
end

