-- ==== Sys2Proof/Machine/Bits.lean ====
section
/-! DEFINITION. Bit-field, sign-extension and byte-order helpers (00_scope.md R10, R11; 20_memory.md R86). -/

namespace Sys2Proof

/-- Bits 15..8 of a word. -/
def hiByte (w : Word) : Byte := w.extractLsb' 8 8

/-- Bits 7..0 of a word. -/
def loByte (w : Word) : Byte := w.extractLsb' 0 8

/-- `hi:lo` (00_scope.md R11). -/
def join (hi lo : Byte) : Word := hi ++ lo

/-- `sext_16(v)` (00_scope.md R11). -/
def sext16 (v : Byte) : Word := v.signExtend 16

/-- `zext_16(v)` (00_scope.md R11). -/
def zext16 (v : Byte) : Word := v.setWidth 16

/-- The byte whose bit `i` is `b` and whose other bits are 0. -/
def bitAt (b : Bool) (i : Nat) : Byte := if b then 1#8 <<< i else 0#8

/-- The number an index field holds. -/
def ix3Val : Ix3 → Nat
  | .i0 => 0 | .i1 => 1 | .i2 => 2 | .i3 => 3 | .i4 => 4 | .i5 => 5 | .i6 => 6 | .i7 => 7

/-- The field `op[hi:lo]` of a byte, `len` bits from bit `lo` up, as a number (30_encoding.md R113). -/
def field (op : Byte) (lo len : Nat) : Nat := (op.extractLsb' lo len).toNat

/-- A three-bit field as an index; `n` is below 8 by construction (30_encoding.md R120). -/
def ix3Of (n : Nat) : Ix3 :=
  match n with
  | 0 => .i0 | 1 => .i1 | 2 => .i2 | 3 => .i3 | 4 => .i4 | 5 => .i5 | 6 => .i6 | _ => .i7

/-- `r8(i)` (30_encoding.md R114). -/
def r8Of (n : Nat) : R8 :=
  match n with
  | 0 => .b | 1 => .c | 2 => .d | 3 => .e | 4 => .h | 5 => .l | 6 => .atHL | _ => .a

/-- `r16(i)` (30_encoding.md R116). -/
def r16Of (n : Nat) : R16 :=
  match n with
  | 0 => .bc | 1 => .de | 2 => .hl | _ => .sp

/-- `r16stk(i)` (30_encoding.md R117). -/
def r16StkOf (n : Nat) : R16Stk :=
  match n with
  | 0 => .bc | 1 => .de | 2 => .hl | _ => .af

/-- `r16mem(i)` (30_encoding.md R118). -/
def r16MemOf (n : Nat) : R16Mem :=
  match n with
  | 0 => .bc | 1 => .de | 2 => .hlInc | _ => .hlDec

/-- `cond(i)` (30_encoding.md R119). -/
def condOf (n : Nat) : Cond :=
  match n with
  | 0 => .nz | 1 => .z | 2 => .nc | _ => .c

/-- `aluop` (30_encoding.md R113). -/
def aluOpOf (n : Nat) : AluOp :=
  match n with
  | 0 => .add | 1 => .adc | 2 => .sub | 3 => .sbc | 4 => .and | 5 => .xor | 6 => .or | _ => .cp

/-- `rot` (30_encoding.md R113). -/
def rotOpOf (n : Nat) : RotOp :=
  match n with
  | 0 => .rlc | 1 => .rrc | 2 => .rl | 3 => .rr | 4 => .sla | 5 => .sra | 6 => .swap | _ => .srl

/-- The index of an 8-bit operand (30_encoding.md R114). -/
def r8Ix (r : R8) : Nat :=
  match r with
  | .b => 0 | .c => 1 | .d => 2 | .e => 3 | .h => 4 | .l => 5 | .atHL => 6 | .a => 7

/-- The index of a register pair (30_encoding.md R116). -/
def r16Ix (r : R16) : Nat :=
  match r with
  | .bc => 0 | .de => 1 | .hl => 2 | .sp => 3

/-- The index of a stack pair (30_encoding.md R117). -/
def r16StkIx (r : R16Stk) : Nat :=
  match r with
  | .bc => 0 | .de => 1 | .hl => 2 | .af => 3

/-- The index of an address selector (30_encoding.md R118). -/
def r16MemIx (r : R16Mem) : Nat :=
  match r with
  | .bc => 0 | .de => 1 | .hlInc => 2 | .hlDec => 3

/-- The index of a condition (30_encoding.md R119). -/
def condIx (cc : Cond) : Nat :=
  match cc with
  | .nz => 0 | .z => 1 | .nc => 2 | .c => 3

/-- The index of an ALU operation (30_encoding.md R113). -/
def aluOpIx (op : AluOp) : Nat :=
  match op with
  | .add => 0 | .adc => 1 | .sub => 2 | .sbc => 3 | .and => 4 | .xor => 5 | .or => 6 | .cp => 7

/-- The index of a rotate or shift (30_encoding.md R113). -/
def rotOpIx (k : RotOp) : Nat :=
  match k with
  | .rlc => 0 | .rrc => 1 | .rl => 2 | .rr => 3 | .sla => 4 | .sra => 5 | .swap => 6 | .srl => 7

end Sys2Proof
end

