-- ==== Sys2Proof/Config.lean ====
section
/-! DEFINITION. The fixed parameters of 00_scope.md R9, and the free values that stand for every device that is not a
reference device (`CART`, `IO`, `VIDEO_ACCESS`, `WRAMX_BANK`). The opaque functions have no body: nothing can be proved
about what they answer, so a statement about them holds for every device. -/

namespace Sys2Proof.Config

/-- `UNUSABLE_SENTINEL` (20_memory.md R78). -/
def unusableSentinel : Byte := 0xFF

/-- `HALT_IDLE_CYCLES` (60_exceptions.md R381). -/
def haltIdleCycles : Nat := 1

/-- A `read` of an open device (20_memory.md R76, R77): from the devices' state, the bus address and the byte kept in
the storage behind that address, either a rejection or the byte read and the devices' next state.
DESIGN CHOICE, safe (log 4): a free value. -/
opaque extRead : Nat → Word → Byte → Option (Byte × Nat)

/-- A `write` of an open device (20_memory.md R76): from the devices' state, the bus address, the byte kept there and the
byte written, either a rejection or the byte kept afterwards and the devices' next state.
DESIGN CHOICE, safe (log 4): a free value. -/
opaque extWrite : Nat → Word → Byte → Byte → Option (Byte × Nat)

/-- Whether an open device accepts a `peek`, and what it answers where its `read` is rejected (20_memory.md R76, R77).
DEDUCED, safe (log 6): a free value. -/
opaque extPeek : Nat → Word → Byte → Option Byte

/-- The bank the switchable work-RAM window shows under an open `WRAMX_BANK` policy (20_memory.md R82).
DESIGN CHOICE, safe (log 8): a free value. -/
opaque extWramxBank : Nat → Nat

end Sys2Proof.Config
end

