-- ==== Sys2Proof/Machine/State.lean ====
section
/-! DEFINITION. The machine's state as plain data (10_state.md), the ways a step can stop (60_exceptions.md R370, R371),
and the state after reset (10_state.md R51 to R54; 70_reset_and_hazards.md R410 to R412). -/

namespace Sys2Proof.Machine

/-- The bytes of every device that stores bytes, as (storage key, byte) pairs: keys strictly rising, no byte equal to
what an unlisted key reads as (`Memory.wf`). The key of a byte is its bus address; see `Machine/Bus.lean`. -/
abbrev Memory := List Host.Cell

/-- Which cartridge stands behind ROM bank 0, the switchable ROM and the external RAM: the `CART` parameter
(20_memory.md R83). -/
inductive CartDevice where
  /-- The reference cartridge: a flat 32 KiB image that ignores writes, and 8 KiB of RAM. -/
  | flat
  /-- Any other cartridge: its answers are the free functions of `Config`. -/
  | external
  deriving DecidableEq, Repr

/-- The kind of a bus access (60_exceptions.md R371). -/
inductive AccessKind where
  | read | write | peek
  deriving DecidableEq, Repr

/-- Which device stands behind 0xFF00 to 0xFF7F: the `IO` parameter (20_memory.md R84). -/
inductive IoDevice where
  /-- The reference device: 0x80 bytes of plain storage. -/
  | plain
  /-- Plain storage that rejects the listed accesses, each a bus address and a kind (20_memory.md R85; 95_test_vectors.md
  section 2.9; log 5). -/
  | rejecting (accesses : List (Word × AccessKind))
  /-- Any other device: its answers are the free functions of `Config`. -/
  | external
  deriving DecidableEq, Repr

/-- Whether the video collaborator restricts video RAM and OAM: the `VIDEO_ACCESS` parameter (20_memory.md R82). -/
inductive VideoAccess where
  /-- The reference value: no restriction. -/
  | unrestricted
  /-- Any restriction: what an access does is the free functions of `Config`. -/
  | external
  deriving DecidableEq, Repr

/-- The bank policy of the switchable work-RAM window: the `WRAMX_BANK` parameter (20_memory.md R82). -/
inductive WramxBank where
  /-- The reference value: one fixed bank. -/
  | fixed
  /-- Any policy: the bank shown is the free function of `Config`, applied to the devices' state at each access. -/
  | external
  deriving DecidableEq, Repr

/-- The whole machine: the core state of 10_state.md R45, the bus state of R49 and R50, and the count the last step
returned (70_reset_and_hazards.md R421). -/
structure State where
  /-- AF (R30); A is bits 15..8, F bits 7..0 (R31). -/
  af : Word
  /-- BC (R30). -/
  bc : Word
  /-- DE (R30). -/
  de : Word
  /-- HL (R30). -/
  hl : Word
  /-- SP (R41). -/
  sp : Word
  /-- PC (R39). -/
  pc : Word
  /-- `IME` (R42). -/
  ime : Bool
  /-- `halted` (R43). -/
  halted : Bool
  /-- `ei_delay` (R44). -/
  eiDelay : Bool
  /-- The bytes of every storing device (R49, R50). -/
  mem : Memory
  /-- The `CART` parameter (00_scope.md R9). -/
  cart : CartDevice
  /-- The `IO` parameter (00_scope.md R9). -/
  io : IoDevice
  /-- The `VIDEO_ACCESS` parameter (00_scope.md R9). -/
  video : VideoAccess
  /-- The `WRAMX_BANK` parameter (00_scope.md R9). -/
  wramx : WramxBank
  /-- The state of the devices that are not reference devices, coded as a number (20_memory.md R76; log 4). -/
  ext : Nat
  /-- The M-cycles the last successful step returned. DESIGN CHOICE, safe (log 1): the spec returns the count
  (30_encoding.md R110) and holds it nowhere. -/
  cycles : Nat
  deriving DecidableEq, Repr

/-- `CpuError` (60_exceptions.md R370, R371): how a step fails. A failed step commits nothing (R372), so a fault
carries no state: the machine is still in the state before the step. -/
inductive Fault where
  /-- `MemoryAccessError`: raised by the bus (`busRead`, `busWrite`, `busPeek`) where a device rejects the access. Safe: the
  machine stops as the spec says it does. -/
  | memoryAccess (addr : Word) (kind : AccessKind)
  /-- `OperandError(IllegalOpcode(op))`: raised by the eleven illegal opcodes (46_control.md R355). Safe: the machine
  stops as the spec says it does. -/
  | illegalOpcode (op : Byte)
  deriving DecidableEq, Repr

/-- Why a step has no meaning in the model. -/
inductive Refusal where
  /-- Raised by an arm of `exec` whose instruction has no meaning yet. Safe. No arm raises it in this model. -/
  | notModelled (mnemonic : String)
  deriving DecidableEq, Repr

/-- The machine right after construction (10_state.md R51, R52; 70_reset_and_hazards.md R410), for the given power-on
contents and devices: `RAM_INIT`, `CART`, `IO`, `VIDEO_ACCESS` and `WRAMX_BANK` are arguments (R53; 00_scope.md R9). -/
def State.powerOn (mem : Memory) (cart : CartDevice) (io : IoDevice) (video : VideoAccess) (wramx : WramxBank)
    (ext : Nat) : State where
  af := 0x0000
  bc := 0x0000
  de := 0x0000
  hl := 0x0000
  sp := 0x0000
  pc := 0x0000
  ime := false
  halted := false
  eiDelay := false
  mem := mem
  cart := cart
  io := io
  video := video
  wramx := wramx
  ext := ext
  cycles := 0

/-- The machine after reset with the reference devices and nothing listed in memory. DESIGN CHOICE, unsafe (log 2,
log 3): the spec leaves the power-on contents and the devices open, and this is one choice of them. -/
def State.reset : State := State.powerOn [] .flat .plain .unrestricted .fixed 0

end Sys2Proof.Machine
end

