-- ==== Sys2Proof/Machine/Registers.lean ====
section
/-! DEFINITION. The register file (10_state.md R30 to R41): pairs, halves and flags, every read and write through here. -/

namespace Sys2Proof.Machine

/-- A = AF[15:8] (R31). -/
def State.A (s : State) : Byte := hiByte s.af
/-- F = AF[7:0], whose bits 3..0 read as zero (R34). -/
def State.F (s : State) : Byte := loByte s.af &&& 0xF0
/-- AF, whose bits 3..0 read as zero (R34). -/
def State.AF (s : State) : Word := s.af &&& 0xFFF0
/-- B = BC[15:8] (R31). -/
def State.B (s : State) : Byte := hiByte s.bc
/-- C = BC[7:0] (R31). -/
def State.C (s : State) : Byte := loByte s.bc
/-- D = DE[15:8] (R31). -/
def State.D (s : State) : Byte := hiByte s.de
/-- E = DE[7:0] (R31). -/
def State.E (s : State) : Byte := loByte s.de
/-- H = HL[15:8] (R31). -/
def State.H (s : State) : Byte := hiByte s.hl
/-- L = HL[7:0] (R31). -/
def State.L (s : State) : Byte := loByte s.hl

/-- `A <- v` (R32). -/
def State.setA (s : State) (v : Byte) : State := { s with af := join v (loByte s.af) }
/-- `F <- v`: bits 3..0 are hard-wired to zero (R34). -/
def State.setF (s : State) (v : Byte) : State := { s with af := join (hiByte s.af) (v &&& 0xF0) }
/-- `AF <- v`: bits 3..0 are hard-wired to zero (R34). -/
def State.setAF (s : State) (v : Word) : State := { s with af := v &&& 0xFFF0 }
/-- `B <- v` (R32). -/
def State.setB (s : State) (v : Byte) : State := { s with bc := join v (loByte s.bc) }
/-- `C <- v` (R32). -/
def State.setC (s : State) (v : Byte) : State := { s with bc := join (hiByte s.bc) v }
/-- `D <- v` (R32). -/
def State.setD (s : State) (v : Byte) : State := { s with de := join v (loByte s.de) }
/-- `E <- v` (R32). -/
def State.setE (s : State) (v : Byte) : State := { s with de := join (hiByte s.de) v }
/-- `H <- v` (R32). -/
def State.setH (s : State) (v : Byte) : State := { s with hl := join v (loByte s.hl) }
/-- `L <- v` (R32). -/
def State.setL (s : State) (v : Byte) : State := { s with hl := join (hiByte s.hl) v }
/-- `BC <- v`. -/
def State.setBC (s : State) (v : Word) : State := { s with bc := v }
/-- `DE <- v`. -/
def State.setDE (s : State) (v : Word) : State := { s with de := v }
/-- `HL <- v`. -/
def State.setHL (s : State) (v : Word) : State := { s with hl := v }
/-- `SP <- v`. -/
def State.setSP (s : State) (v : Word) : State := { s with sp := v }
/-- `PC <- v`. -/
def State.setPC (s : State) (v : Word) : State := { s with pc := v }
/-- `IME <- b` (R42). -/
def State.setIME (s : State) (b : Bool) : State := { s with ime := b }
/-- `halted <- b` (R43). -/
def State.setHalted (s : State) (b : Bool) : State := { s with halted := b }
/-- `ei_delay <- b` (R44). -/
def State.setEiDelay (s : State) (b : Bool) : State := { s with eiDelay := b }
/-- Record the count the step returns (70_reset_and_hazards.md R421; log 1). -/
def State.setCycles (s : State) (n : Nat) : State := { s with cycles := n }

/-- `fZ` = F[7] (R33). -/
def State.fZ (s : State) : Bool := s.F.getLsbD 7
/-- `fN` = F[6] (R33). -/
def State.fN (s : State) : Bool := s.F.getLsbD 6
/-- `fH` = F[5] (R33). -/
def State.fH (s : State) : Bool := s.F.getLsbD 5
/-- `fC` = F[4] (R33). -/
def State.fC (s : State) : Bool := s.F.getLsbD 4

/-- `fZ <- b` (R35). -/
def State.setFZ (s : State) (b : Bool) : State := s.setF ((s.F &&& ~~~0x80#8) ||| (if b then 0x80#8 else 0#8))
/-- `fN <- b` (R35). -/
def State.setFN (s : State) (b : Bool) : State := s.setF ((s.F &&& ~~~0x40#8) ||| (if b then 0x40#8 else 0#8))
/-- `fH <- b` (R35). -/
def State.setFH (s : State) (b : Bool) : State := s.setF ((s.F &&& ~~~0x20#8) ||| (if b then 0x20#8 else 0#8))
/-- `fC <- b` (R35). -/
def State.setFC (s : State) (b : Bool) : State := s.setF ((s.F &&& ~~~0x10#8) ||| (if b then 0x10#8 else 0#8))

/-- The six register pairs (R30). -/
inductive Pair where
  | af | bc | de | hl | sp | pc
  deriving DecidableEq, Repr

/-- The value of a pair (R30, R34). -/
def State.pair (s : State) (p : Pair) : Word :=
  match p with
  | .af => s.AF
  | .bc => s.bc
  | .de => s.de
  | .hl => s.hl
  | .sp => s.sp
  | .pc => s.pc

/-- Write a pair (R30, R34). -/
def State.setPair (s : State) (p : Pair) (v : Word) : State :=
  match p with
  | .af => s.setAF v
  | .bc => s.setBC v
  | .de => s.setDE v
  | .hl => s.setHL v
  | .sp => s.setSP v
  | .pc => s.setPC v

/-- `take_and_increment(pair)` (R36): the value before, and the pair one more modulo 2^16. -/
def takeAndIncrement (p : Pair) (s : State) : Word × State := (s.pair p, s.setPair p (s.pair p + 1))
/-- `take_and_decrement(pair)` (R36): the value before, and the pair one less modulo 2^16. -/
def takeAndDecrement (p : Pair) (s : State) : Word × State := (s.pair p, s.setPair p (s.pair p - 1))

end Sys2Proof.Machine
end

