-- ==== Sys2Proof/Machine/Flags.lean ====
section
/-! DEFINITION. The arithmetic laws and every flag computation (41_alu8.md R190 to R193, R218 to R222; 42_alu16.md R242;
44_stack.md R290; 45_bitops.md R314). -/

namespace Sys2Proof.Machine

/-- The tuple `(r, z, n, h, c)` of the laws. -/
structure AluResult where
  r : Byte
  z : Bool
  n : Bool
  h : Bool
  c : Bool
  deriving DecidableEq, Repr

/-- The byte `z:n:h:c:0000`. -/
def packFlags (z n h c : Bool) : Byte := bitAt z 7 ||| bitAt n 6 ||| bitAt h 5 ||| bitAt c 4

/-- `F <- z:n:h:c:0000` (41_alu8.md, introduction). -/
def State.setFlags (s : State) (z n h c : Bool) : State := s.setF (packFlags z n h c)

/-- `add8(a, b, cin)` (41_alu8.md R190). -/
def add8 (a b : Byte) (cin : Bool) : AluResult :=
  let s := a.toNat + b.toNat + cin.toNat
  let r := BitVec.ofNat 8 s
  { r := r, z := r == 0, n := false,
    h := decide ((a &&& 0xF).toNat + (b &&& 0xF).toNat + cin.toNat > 0xF), c := decide (s > 0xFF) }

/-- `sub8(a, b, cin)` (41_alu8.md R191). -/
def sub8 (a b : Byte) (cin : Bool) : AluResult :=
  let r := a - b - BitVec.ofNat 8 cin.toNat
  { r := r, z := r == 0, n := true,
    h := decide ((a &&& 0xF).toNat < (b &&& 0xF).toNat + cin.toNat), c := decide (a.toNat < b.toNat + cin.toNat) }

/-- `and8(a, b)` (41_alu8.md R192). -/
def and8 (a b : Byte) : AluResult := { r := a &&& b, z := (a &&& b) == 0, n := false, h := true, c := false }
/-- `xor8(a, b)` (41_alu8.md R192). -/
def xor8 (a b : Byte) : AluResult := { r := a ^^^ b, z := (a ^^^ b) == 0, n := false, h := false, c := false }
/-- `or8(a, b)` (41_alu8.md R192). -/
def or8 (a b : Byte) : AluResult := { r := a ||| b, z := (a ||| b) == 0, n := false, h := false, c := false }

/-- The operation `aluop` selects (41_alu8.md R193). -/
def aluResult (op : AluOp) (a v : Byte) (fC : Bool) : AluResult :=
  match op with
  | .add => add8 a v false
  | .adc => add8 a v fC
  | .sub => sub8 a v false
  | .sbc => sub8 a v fC
  | .and => and8 a v
  | .xor => xor8 a v
  | .or => or8 a v
  | .cp => sub8 a v false

/-- Whether `aluop` writes its result to A: every operation but CP (41_alu8.md R193). -/
def aluWrites (op : AluOp) : Bool :=
  match op with
  | .cp => false
  | .add | .adc | .sub | .sbc | .and | .xor | .or => true

/-- The result and flags of an increment; `c` is the old carry, not written (41_alu8.md R218). -/
def inc8Result (v : Byte) (fC : Bool) : AluResult :=
  { r := v + 1, z := (v + 1) == 0, n := false, h := (v &&& 0xF) == 0xF, c := fC }

/-- The result and flags of a decrement; `c` is the old carry, not written (41_alu8.md R220). -/
def dec8Result (v : Byte) (fC : Bool) : AluResult :=
  { r := v - 1, z := (v - 1) == 0, n := true, h := (v &&& 0xF) == 0, c := fC }

/-- The result and flags of DAA (41_alu8.md R222). -/
def daaResult (a : Byte) (fN fH fC : Bool) : AluResult :=
  if fN then
    let a1 := if fC then a - 0x60 else a
    let a2 := if fH then a1 - 0x06 else a1
    { r := a2, z := a2 == 0, n := fN, h := false, c := fC }
  else
    let high := fC || decide (a.toNat > 0x99)
    let a1 := if high then a + 0x60 else a
    let low := fH || decide ((a1 &&& 0x0F).toNat > 0x09)
    let a2 := if low then a1 + 0x06 else a1
    { r := a2, z := a2 == 0, n := fN, h := false, c := high }

/-- The sum, half carry and carry of ADD HL,r16 (42_alu16.md R242). -/
def addHLResult (a b : Word) : Word × Bool × Bool :=
  let s := a.toNat + b.toNat
  (BitVec.ofNat 16 s, decide ((a &&& 0x0FFF).toNat + (b &&& 0x0FFF).toNat > 0x0FFF), decide (s > 0xFFFF))

/-- `sp_plus_e8(e)` without its constant flags: the sum, half carry and carry (44_stack.md R290). -/
def spPlusE8 (sp : Word) (e : Byte) : Word × Bool × Bool :=
  (sp + sext16 e, decide ((sp &&& 0x0F).toNat + (e &&& 0x0F).toNat > 0x0F),
    decide ((sp &&& 0xFF).toNat + e.toNat > 0xFF))

/-- `cbrot(k, v)` (45_bitops.md R314): the result and the bit shifted out. -/
def cbrot (k : RotOp) (v : Byte) (fC : Bool) : Byte × Bool :=
  match k with
  | .rlc => ((v <<< 1) ||| bitAt (v.getLsbD 7) 0, v.getLsbD 7)
  | .rrc => ((v >>> 1) ||| bitAt (v.getLsbD 0) 7, v.getLsbD 0)
  | .rl => ((v <<< 1) ||| bitAt fC 0, v.getLsbD 7)
  | .rr => ((v >>> 1) ||| bitAt fC 7, v.getLsbD 0)
  | .sla => (v <<< 1, v.getLsbD 7)
  | .sra => ((v >>> 1) ||| (v &&& 0x80), v.getLsbD 0)
  | .swap => ((v <<< 4) ||| (v >>> 4), false)
  | .srl => (v >>> 1, v.getLsbD 0)

/-- The condition `cond(i)` against the current flags (30_encoding.md R119). -/
def State.holds (s : State) (cc : Cond) : Bool :=
  match cc with
  | .nz => !s.fZ
  | .z => s.fZ
  | .nc => !s.fC
  | .c => s.fC

end Sys2Proof.Machine
end

