-- ==== Sys2Proof/WellFormed.lean ====
section
/-! DEFINITION. Which terms of `Instr` are instructions of the machine. -/

namespace Sys2Proof

/-- Every constructor is well formed for all its operands but `prefix_CB`: the prefix byte alone is no instruction, it
and its second byte are one instruction of the second page (30_encoding.md R127), which has a constructor of its own. -/
def Instr.wellFormed (i : Instr) : Bool :=
  match i with
  | .prefix_CB _ => false
  | _ => true

/-- `i` is an instruction of the machine. -/
abbrev WellFormed (i : Instr) : Prop := i.wellFormed = true

end Sys2Proof
end

