-- ==== Sys2Proof/Decode.lean ====
section
/-! DEFINITION. The decoder, from the field tables of 30_encoding.md R113 to R133, and after it the encoder, from the
`match` column of spec/opcode_table.json. -/

namespace Sys2Proof

/-- `LD dst,src` by its operands; the place of `LD [HL],[HL]` is HALT (30_encoding.md R129). -/
def mkLd (dst : R8) (src : R8) : Instr :=
  match dst, src with
  | .b, .b => .ld_B_B | .b, .c => .ld_B_C | .b, .d => .ld_B_D | .b, .e => .ld_B_E | .b, .h => .ld_B_H | .b, .l => .ld_B_L | .b, .atHL => .ld_B_atHL | .b, .a => .ld_B_A
  | .c, .b => .ld_C_B | .c, .c => .ld_C_C | .c, .d => .ld_C_D | .c, .e => .ld_C_E | .c, .h => .ld_C_H | .c, .l => .ld_C_L | .c, .atHL => .ld_C_atHL | .c, .a => .ld_C_A
  | .d, .b => .ld_D_B | .d, .c => .ld_D_C | .d, .d => .ld_D_D | .d, .e => .ld_D_E | .d, .h => .ld_D_H | .d, .l => .ld_D_L | .d, .atHL => .ld_D_atHL | .d, .a => .ld_D_A
  | .e, .b => .ld_E_B | .e, .c => .ld_E_C | .e, .d => .ld_E_D | .e, .e => .ld_E_E | .e, .h => .ld_E_H | .e, .l => .ld_E_L | .e, .atHL => .ld_E_atHL | .e, .a => .ld_E_A
  | .h, .b => .ld_H_B | .h, .c => .ld_H_C | .h, .d => .ld_H_D | .h, .e => .ld_H_E | .h, .h => .ld_H_H | .h, .l => .ld_H_L | .h, .atHL => .ld_H_atHL | .h, .a => .ld_H_A
  | .l, .b => .ld_L_B | .l, .c => .ld_L_C | .l, .d => .ld_L_D | .l, .e => .ld_L_E | .l, .h => .ld_L_H | .l, .l => .ld_L_L | .l, .atHL => .ld_L_atHL | .l, .a => .ld_L_A
  | .atHL, .b => .ld_atHL_B | .atHL, .c => .ld_atHL_C | .atHL, .d => .ld_atHL_D | .atHL, .e => .ld_atHL_E | .atHL, .h => .ld_atHL_H | .atHL, .l => .ld_atHL_L | .atHL, .atHL => .halt | .atHL, .a => .ld_atHL_A
  | .a, .b => .ld_A_B | .a, .c => .ld_A_C | .a, .d => .ld_A_D | .a, .e => .ld_A_E | .a, .h => .ld_A_H | .a, .l => .ld_A_L | .a, .atHL => .ld_A_atHL | .a, .a => .ld_A_A

/-- `LD dst,n8` (30_encoding.md R128, z = 110). -/
def mkLdImm (dst : R8) (n : Byte) : Instr :=
  match dst with
  | .b => .ld_B_n8 n
  | .c => .ld_C_n8 n
  | .d => .ld_D_n8 n
  | .e => .ld_E_n8 n
  | .h => .ld_H_n8 n
  | .l => .ld_L_n8 n
  | .atHL => .ld_atHL_n8 n
  | .a => .ld_A_n8 n

/-- `LD r16,n16` (30_encoding.md R128, z = 001, q = 0). -/
def mkLdR16 (rp : R16) (n : Word) : Instr :=
  match rp with
  | .bc => .ld_BC_n16 n
  | .de => .ld_DE_n16 n
  | .hl => .ld_HL_n16 n
  | .sp => .ld_SP_n16 n

/-- `LD [r16mem],A` (30_encoding.md R128, z = 010, q = 0). -/
def mkStoreMem (rp : R16Mem) : Instr :=
  match rp with
  | .bc => .ld_atBC_A
  | .de => .ld_atDE_A
  | .hlInc => .ld_atHLinc_A
  | .hlDec => .ld_atHLdec_A

/-- `LD A,[r16mem]` (30_encoding.md R128, z = 010, q = 1). -/
def mkLoadMem (rp : R16Mem) : Instr :=
  match rp with
  | .bc => .ld_A_atBC
  | .de => .ld_A_atDE
  | .hlInc => .ld_A_atHLinc
  | .hlDec => .ld_A_atHLdec

/-- `INC r16` (30_encoding.md R128, z = 011, q = 0). -/
def mkIncR16 (rp : R16) : Instr :=
  match rp with
  | .bc => .inc_BC
  | .de => .inc_DE
  | .hl => .inc_HL
  | .sp => .inc_SP

/-- `DEC r16` (30_encoding.md R128, z = 011, q = 1). -/
def mkDecR16 (rp : R16) : Instr :=
  match rp with
  | .bc => .dec_BC
  | .de => .dec_DE
  | .hl => .dec_HL
  | .sp => .dec_SP

/-- `ADD HL,r16` (30_encoding.md R128, z = 001, q = 1). -/
def mkAddHL (rp : R16) : Instr :=
  match rp with
  | .bc => .add_HL_BC
  | .de => .add_HL_DE
  | .hl => .add_HL_HL
  | .sp => .add_HL_SP

/-- `INC r8` and `INC [HL]` (30_encoding.md R128, z = 100). -/
def mkInc8 (dst : R8) : Instr :=
  match dst with
  | .b => .inc_B
  | .c => .inc_C
  | .d => .inc_D
  | .e => .inc_E
  | .h => .inc_H
  | .l => .inc_L
  | .atHL => .inc_atHL
  | .a => .inc_A

/-- `DEC r8` and `DEC [HL]` (30_encoding.md R128, z = 101). -/
def mkDec8 (dst : R8) : Instr :=
  match dst with
  | .b => .dec_B
  | .c => .dec_C
  | .d => .dec_D
  | .e => .dec_E
  | .h => .dec_H
  | .l => .dec_L
  | .atHL => .dec_atHL
  | .a => .dec_A

/-- `JR cc,e8` (30_encoding.md R128, z = 000, y = 4..7). -/
def mkJrIf (cc : Cond) (e : Byte) : Instr :=
  match cc with
  | .nz => .jr_NZ_e8 e
  | .z => .jr_Z_e8 e
  | .nc => .jr_NC_e8 e
  | .c => .jr_C_e8 e

/-- `RET cc` (30_encoding.md R131, z = 000, y = 0..3). -/
def mkRetIf (cc : Cond) : Instr :=
  match cc with
  | .nz => .ret_NZ
  | .z => .ret_Z
  | .nc => .ret_NC
  | .c => .ret_C

/-- `JP cc,n16` (30_encoding.md R131, z = 010, y = 0..3). -/
def mkJpIf (cc : Cond) (n : Word) : Instr :=
  match cc with
  | .nz => .jp_NZ_n16 n
  | .z => .jp_Z_n16 n
  | .nc => .jp_NC_n16 n
  | .c => .jp_C_n16 n

/-- `CALL cc,n16` (30_encoding.md R131, z = 100, y = 0..3). -/
def mkCallIf (cc : Cond) (n : Word) : Instr :=
  match cc with
  | .nz => .call_NZ_n16 n
  | .z => .call_Z_n16 n
  | .nc => .call_NC_n16 n
  | .c => .call_C_n16 n

/-- `POP r16stk` (30_encoding.md R131, z = 001, q = 0). -/
def mkPop (rp : R16Stk) : Instr :=
  match rp with
  | .bc => .pop_BC
  | .de => .pop_DE
  | .hl => .pop_HL
  | .af => .pop_AF

/-- `PUSH r16stk` (30_encoding.md R131, z = 101, q = 0). -/
def mkPush (rp : R16Stk) : Instr :=
  match rp with
  | .bc => .push_BC
  | .de => .push_DE
  | .hl => .push_HL
  | .af => .push_AF

/-- `RST tgt3` (30_encoding.md R131, z = 111). -/
def mkRst (t : Ix3) : Instr :=
  match t with
  | .i0 => .rst_00
  | .i1 => .rst_08
  | .i2 => .rst_10
  | .i3 => .rst_18
  | .i4 => .rst_20
  | .i5 => .rst_28
  | .i6 => .rst_30
  | .i7 => .rst_38

/-- `aluop A,r8` (30_encoding.md R130). -/
def mkAlu (op : AluOp) (src : R8) : Instr :=
  match op, src with
  | .add, .b => .add_A_B | .add, .c => .add_A_C | .add, .d => .add_A_D | .add, .e => .add_A_E | .add, .h => .add_A_H | .add, .l => .add_A_L | .add, .atHL => .add_A_atHL | .add, .a => .add_A_A
  | .adc, .b => .adc_A_B | .adc, .c => .adc_A_C | .adc, .d => .adc_A_D | .adc, .e => .adc_A_E | .adc, .h => .adc_A_H | .adc, .l => .adc_A_L | .adc, .atHL => .adc_A_atHL | .adc, .a => .adc_A_A
  | .sub, .b => .sub_A_B | .sub, .c => .sub_A_C | .sub, .d => .sub_A_D | .sub, .e => .sub_A_E | .sub, .h => .sub_A_H | .sub, .l => .sub_A_L | .sub, .atHL => .sub_A_atHL | .sub, .a => .sub_A_A
  | .sbc, .b => .sbc_A_B | .sbc, .c => .sbc_A_C | .sbc, .d => .sbc_A_D | .sbc, .e => .sbc_A_E | .sbc, .h => .sbc_A_H | .sbc, .l => .sbc_A_L | .sbc, .atHL => .sbc_A_atHL | .sbc, .a => .sbc_A_A
  | .and, .b => .and_A_B | .and, .c => .and_A_C | .and, .d => .and_A_D | .and, .e => .and_A_E | .and, .h => .and_A_H | .and, .l => .and_A_L | .and, .atHL => .and_A_atHL | .and, .a => .and_A_A
  | .xor, .b => .xor_A_B | .xor, .c => .xor_A_C | .xor, .d => .xor_A_D | .xor, .e => .xor_A_E | .xor, .h => .xor_A_H | .xor, .l => .xor_A_L | .xor, .atHL => .xor_A_atHL | .xor, .a => .xor_A_A
  | .or, .b => .or_A_B | .or, .c => .or_A_C | .or, .d => .or_A_D | .or, .e => .or_A_E | .or, .h => .or_A_H | .or, .l => .or_A_L | .or, .atHL => .or_A_atHL | .or, .a => .or_A_A
  | .cp, .b => .cp_A_B | .cp, .c => .cp_A_C | .cp, .d => .cp_A_D | .cp, .e => .cp_A_E | .cp, .h => .cp_A_H | .cp, .l => .cp_A_L | .cp, .atHL => .cp_A_atHL | .cp, .a => .cp_A_A

/-- `aluop A,n8` (30_encoding.md R131, z = 110). -/
def mkAluImm (op : AluOp) (n : Byte) : Instr :=
  match op with
  | .add => .add_A_n8 n
  | .adc => .adc_A_n8 n
  | .sub => .sub_A_n8 n
  | .sbc => .sbc_A_n8 n
  | .and => .and_A_n8 n
  | .xor => .xor_A_n8 n
  | .or => .or_A_n8 n
  | .cp => .cp_A_n8 n

/-- The rotates, shifts and SWAP of the second page (30_encoding.md R132, op2[7:6] = 00). -/
def mkRot (k : RotOp) (r : R8) : Instr :=
  match k, r with
  | .rlc, .b => .rlc_B | .rlc, .c => .rlc_C | .rlc, .d => .rlc_D | .rlc, .e => .rlc_E | .rlc, .h => .rlc_H | .rlc, .l => .rlc_L | .rlc, .atHL => .rlc_atHL | .rlc, .a => .rlc_A
  | .rrc, .b => .rrc_B | .rrc, .c => .rrc_C | .rrc, .d => .rrc_D | .rrc, .e => .rrc_E | .rrc, .h => .rrc_H | .rrc, .l => .rrc_L | .rrc, .atHL => .rrc_atHL | .rrc, .a => .rrc_A
  | .rl, .b => .rl_B | .rl, .c => .rl_C | .rl, .d => .rl_D | .rl, .e => .rl_E | .rl, .h => .rl_H | .rl, .l => .rl_L | .rl, .atHL => .rl_atHL | .rl, .a => .rl_A
  | .rr, .b => .rr_B | .rr, .c => .rr_C | .rr, .d => .rr_D | .rr, .e => .rr_E | .rr, .h => .rr_H | .rr, .l => .rr_L | .rr, .atHL => .rr_atHL | .rr, .a => .rr_A
  | .sla, .b => .sla_B | .sla, .c => .sla_C | .sla, .d => .sla_D | .sla, .e => .sla_E | .sla, .h => .sla_H | .sla, .l => .sla_L | .sla, .atHL => .sla_atHL | .sla, .a => .sla_A
  | .sra, .b => .sra_B | .sra, .c => .sra_C | .sra, .d => .sra_D | .sra, .e => .sra_E | .sra, .h => .sra_H | .sra, .l => .sra_L | .sra, .atHL => .sra_atHL | .sra, .a => .sra_A
  | .swap, .b => .swap_B | .swap, .c => .swap_C | .swap, .d => .swap_D | .swap, .e => .swap_E | .swap, .h => .swap_H | .swap, .l => .swap_L | .swap, .atHL => .swap_atHL | .swap, .a => .swap_A
  | .srl, .b => .srl_B | .srl, .c => .srl_C | .srl, .d => .srl_D | .srl, .e => .srl_E | .srl, .h => .srl_H | .srl, .l => .srl_L | .srl, .atHL => .srl_atHL | .srl, .a => .srl_A

/-- `BIT b3,r8` (30_encoding.md R132, op2[7:6] = 01). -/
def mkBit (b : Ix3) (r : R8) : Instr :=
  match b, r with
  | .i0, .b => .bit_0_B | .i0, .c => .bit_0_C | .i0, .d => .bit_0_D | .i0, .e => .bit_0_E | .i0, .h => .bit_0_H | .i0, .l => .bit_0_L | .i0, .atHL => .bit_0_atHL | .i0, .a => .bit_0_A
  | .i1, .b => .bit_1_B | .i1, .c => .bit_1_C | .i1, .d => .bit_1_D | .i1, .e => .bit_1_E | .i1, .h => .bit_1_H | .i1, .l => .bit_1_L | .i1, .atHL => .bit_1_atHL | .i1, .a => .bit_1_A
  | .i2, .b => .bit_2_B | .i2, .c => .bit_2_C | .i2, .d => .bit_2_D | .i2, .e => .bit_2_E | .i2, .h => .bit_2_H | .i2, .l => .bit_2_L | .i2, .atHL => .bit_2_atHL | .i2, .a => .bit_2_A
  | .i3, .b => .bit_3_B | .i3, .c => .bit_3_C | .i3, .d => .bit_3_D | .i3, .e => .bit_3_E | .i3, .h => .bit_3_H | .i3, .l => .bit_3_L | .i3, .atHL => .bit_3_atHL | .i3, .a => .bit_3_A
  | .i4, .b => .bit_4_B | .i4, .c => .bit_4_C | .i4, .d => .bit_4_D | .i4, .e => .bit_4_E | .i4, .h => .bit_4_H | .i4, .l => .bit_4_L | .i4, .atHL => .bit_4_atHL | .i4, .a => .bit_4_A
  | .i5, .b => .bit_5_B | .i5, .c => .bit_5_C | .i5, .d => .bit_5_D | .i5, .e => .bit_5_E | .i5, .h => .bit_5_H | .i5, .l => .bit_5_L | .i5, .atHL => .bit_5_atHL | .i5, .a => .bit_5_A
  | .i6, .b => .bit_6_B | .i6, .c => .bit_6_C | .i6, .d => .bit_6_D | .i6, .e => .bit_6_E | .i6, .h => .bit_6_H | .i6, .l => .bit_6_L | .i6, .atHL => .bit_6_atHL | .i6, .a => .bit_6_A
  | .i7, .b => .bit_7_B | .i7, .c => .bit_7_C | .i7, .d => .bit_7_D | .i7, .e => .bit_7_E | .i7, .h => .bit_7_H | .i7, .l => .bit_7_L | .i7, .atHL => .bit_7_atHL | .i7, .a => .bit_7_A

/-- `RES b3,r8` (30_encoding.md R132, op2[7:6] = 10). -/
def mkRes (b : Ix3) (r : R8) : Instr :=
  match b, r with
  | .i0, .b => .res_0_B | .i0, .c => .res_0_C | .i0, .d => .res_0_D | .i0, .e => .res_0_E | .i0, .h => .res_0_H | .i0, .l => .res_0_L | .i0, .atHL => .res_0_atHL | .i0, .a => .res_0_A
  | .i1, .b => .res_1_B | .i1, .c => .res_1_C | .i1, .d => .res_1_D | .i1, .e => .res_1_E | .i1, .h => .res_1_H | .i1, .l => .res_1_L | .i1, .atHL => .res_1_atHL | .i1, .a => .res_1_A
  | .i2, .b => .res_2_B | .i2, .c => .res_2_C | .i2, .d => .res_2_D | .i2, .e => .res_2_E | .i2, .h => .res_2_H | .i2, .l => .res_2_L | .i2, .atHL => .res_2_atHL | .i2, .a => .res_2_A
  | .i3, .b => .res_3_B | .i3, .c => .res_3_C | .i3, .d => .res_3_D | .i3, .e => .res_3_E | .i3, .h => .res_3_H | .i3, .l => .res_3_L | .i3, .atHL => .res_3_atHL | .i3, .a => .res_3_A
  | .i4, .b => .res_4_B | .i4, .c => .res_4_C | .i4, .d => .res_4_D | .i4, .e => .res_4_E | .i4, .h => .res_4_H | .i4, .l => .res_4_L | .i4, .atHL => .res_4_atHL | .i4, .a => .res_4_A
  | .i5, .b => .res_5_B | .i5, .c => .res_5_C | .i5, .d => .res_5_D | .i5, .e => .res_5_E | .i5, .h => .res_5_H | .i5, .l => .res_5_L | .i5, .atHL => .res_5_atHL | .i5, .a => .res_5_A
  | .i6, .b => .res_6_B | .i6, .c => .res_6_C | .i6, .d => .res_6_D | .i6, .e => .res_6_E | .i6, .h => .res_6_H | .i6, .l => .res_6_L | .i6, .atHL => .res_6_atHL | .i6, .a => .res_6_A
  | .i7, .b => .res_7_B | .i7, .c => .res_7_C | .i7, .d => .res_7_D | .i7, .e => .res_7_E | .i7, .h => .res_7_H | .i7, .l => .res_7_L | .i7, .atHL => .res_7_atHL | .i7, .a => .res_7_A

/-- `SET b3,r8` (30_encoding.md R132, op2[7:6] = 11). -/
def mkSet (b : Ix3) (r : R8) : Instr :=
  match b, r with
  | .i0, .b => .set_0_B | .i0, .c => .set_0_C | .i0, .d => .set_0_D | .i0, .e => .set_0_E | .i0, .h => .set_0_H | .i0, .l => .set_0_L | .i0, .atHL => .set_0_atHL | .i0, .a => .set_0_A
  | .i1, .b => .set_1_B | .i1, .c => .set_1_C | .i1, .d => .set_1_D | .i1, .e => .set_1_E | .i1, .h => .set_1_H | .i1, .l => .set_1_L | .i1, .atHL => .set_1_atHL | .i1, .a => .set_1_A
  | .i2, .b => .set_2_B | .i2, .c => .set_2_C | .i2, .d => .set_2_D | .i2, .e => .set_2_E | .i2, .h => .set_2_H | .i2, .l => .set_2_L | .i2, .atHL => .set_2_atHL | .i2, .a => .set_2_A
  | .i3, .b => .set_3_B | .i3, .c => .set_3_C | .i3, .d => .set_3_D | .i3, .e => .set_3_E | .i3, .h => .set_3_H | .i3, .l => .set_3_L | .i3, .atHL => .set_3_atHL | .i3, .a => .set_3_A
  | .i4, .b => .set_4_B | .i4, .c => .set_4_C | .i4, .d => .set_4_D | .i4, .e => .set_4_E | .i4, .h => .set_4_H | .i4, .l => .set_4_L | .i4, .atHL => .set_4_atHL | .i4, .a => .set_4_A
  | .i5, .b => .set_5_B | .i5, .c => .set_5_C | .i5, .d => .set_5_D | .i5, .e => .set_5_E | .i5, .h => .set_5_H | .i5, .l => .set_5_L | .i5, .atHL => .set_5_atHL | .i5, .a => .set_5_A
  | .i6, .b => .set_6_B | .i6, .c => .set_6_C | .i6, .d => .set_6_D | .i6, .e => .set_6_E | .i6, .h => .set_6_H | .i6, .l => .set_6_L | .i6, .atHL => .set_6_atHL | .i6, .a => .set_6_A
  | .i7, .b => .set_7_B | .i7, .c => .set_7_C | .i7, .d => .set_7_D | .i7, .e => .set_7_E | .i7, .h => .set_7_H | .i7, .l => .set_7_L | .i7, .atHL => .set_7_atHL | .i7, .a => .set_7_A

/-- The second page: the instruction of the byte after 0xCB (30_encoding.md R127, R132). -/
def decodeCB (op2 : Byte) : Instr :=
  match field op2 6 2 with
  | 0 => mkRot (rotOpOf (field op2 3 3)) (r8Of (field op2 0 3))
  | 1 => mkBit (ix3Of (field op2 3 3)) (r8Of (field op2 0 3))
  | 2 => mkRes (ix3Of (field op2 3 3)) (r8Of (field op2 0 3))
  | _ => mkSet (ix3Of (field op2 3 3)) (r8Of (field op2 0 3))

/-- Block 0 (30_encoding.md R128): `y = op[5:3]`, `rp = op[5:4]`, `q = op[3]`; `b1`, `b2` are the bytes after `op`. -/
def decodeBlock0 (op b1 b2 : Byte) : Instr :=
  let y := field op 3 3
  let rp := field op 4 2
  let q := field op 3 1
  match field op 0 3 with
  | 0 =>
    match y with
    | 0 => .nop
    | 1 => .ld_atn16_SP (join b2 b1)
    | 2 => .stop_n8 b1
    | 3 => .jr_e8 b1
    | _ => mkJrIf (condOf (field op 3 2)) b1
  | 1 => if q = 0 then mkLdR16 (r16Of rp) (join b2 b1) else mkAddHL (r16Of rp)
  | 2 => if q = 0 then mkStoreMem (r16MemOf rp) else mkLoadMem (r16MemOf rp)
  | 3 => if q = 0 then mkIncR16 (r16Of rp) else mkDecR16 (r16Of rp)
  | 4 => mkInc8 (r8Of y)
  | 5 => mkDec8 (r8Of y)
  | 6 => mkLdImm (r8Of y) b1
  | _ =>
    match y with
    | 0 => .rlca
    | 1 => .rrca
    | 2 => .rla
    | 3 => .rra
    | 4 => .daa
    | 5 => .cpl
    | 6 => .scf
    | _ => .ccf

/-- Block 3 (30_encoding.md R131), the prefix 0xCB and the eleven illegal first bytes (R134) among its rows. -/
def decodeBlock3 (op b1 b2 : Byte) : Instr :=
  let y := field op 3 3
  let rp := field op 4 2
  let q := field op 3 1
  match field op 0 3 with
  | 0 =>
    match y with
    | 4 => .ldh_atn8_A b1
    | 5 => .add_SP_e8 b1
    | 6 => .ldh_A_atn8 b1
    | 7 => .ld_HL_SPe8 b1
    | _ => mkRetIf (condOf (field op 3 2))
  | 1 =>
    if q = 0 then mkPop (r16StkOf rp)
    else
      match rp with
      | 0 => .ret
      | 1 => .reti
      | 2 => .jp_HL
      | _ => .ld_SP_HL
  | 2 =>
    match y with
    | 4 => .ldh_atC_A
    | 5 => .ld_atn16_A (join b2 b1)
    | 6 => .ldh_A_atC
    | 7 => .ld_A_atn16 (join b2 b1)
    | _ => mkJpIf (condOf (field op 3 2)) (join b2 b1)
  | 3 =>
    match y with
    | 0 => .jp_n16 (join b2 b1)
    | 1 => decodeCB b1
    | 2 => .illegal_D3
    | 3 => .illegal_DB
    | 4 => .illegal_E3
    | 5 => .illegal_EB
    | 6 => .di
    | _ => .ei
  | 4 =>
    match y with
    | 4 => .illegal_E4
    | 5 => .illegal_EC
    | 6 => .illegal_F4
    | 7 => .illegal_FC
    | _ => mkCallIf (condOf (field op 3 2)) (join b2 b1)
  | 5 =>
    if q = 0 then mkPush (r16StkOf rp)
    else
      match rp with
      | 0 => .call_n16 (join b2 b1)
      | 1 => .illegal_DD
      | 2 => .illegal_ED
      | _ => .illegal_FD
  | 6 => mkAluImm (aluOpOf y) b1
  | _ => mkRst (ix3Of y)

/-- The instruction whose first byte is `op` and whose next bytes are `b1`, `b2`, those past its length ignored
(30_encoding.md R128 to R133). Every first byte has exactly one (R133), so the decoder is total. -/
def decodeInstr (op b1 b2 : Byte) : Instr :=
  match field op 6 2 with
  | 0 => decodeBlock0 op b1 b2
  | 1 => mkLd (r8Of (field op 3 3)) (r8Of (field op 0 3))
  | 2 => mkAlu (aluOpOf (field op 3 3)) (r8Of (field op 0 3))
  | _ => decodeBlock3 op b1 b2

/-- The first bytes of the two-byte instructions (30_encoding.md R140), 0xCB among them. -/
def twoByteOps : List Nat :=
  [0xCB, 0x06, 0x0E, 0x16, 0x1E, 0x26, 0x2E, 0x36, 0x3E, 0x10, 0x18, 0x20, 0x28, 0x30, 0x38] ++
  [0xC6, 0xCE, 0xD6, 0xDE, 0xE6, 0xEE, 0xF6, 0xFE, 0xE0, 0xF0, 0xE8, 0xF8]

/-- The first bytes of the three-byte instructions (30_encoding.md R140). -/
def threeByteOps : List Nat :=
  [0x01, 0x11, 0x21, 0x31, 0x08, 0xC2, 0xCA, 0xD2, 0xDA, 0xC3, 0xC4, 0xCC, 0xD4, 0xDC, 0xCD, 0xEA, 0xFA]

/-- The length of the instruction with first byte `op` (30_encoding.md R111, R140). -/
def instrLength (op : Byte) : Nat :=
  if op.toNat ∈ twoByteOps then 2 else if op.toNat ∈ threeByteOps then 3 else 1

/-- Why bytes are no instruction: only for want of bytes, since every first byte names one. -/
inductive DecodeError where
  /-- There is no byte at all. -/
  | noBytes
  /-- The bytes end inside the instruction that starts with `op`. -/
  | truncated (op : Byte)
  deriving DecidableEq, Repr

/-- The instruction at the front of a list of bytes, and the bytes after it. -/
def decode (bytes : List Byte) : Except DecodeError (Instr × List Byte) :=
  match bytes with
  | [] => .error .noBytes
  | op :: rest =>
    let n := instrLength op - 1
    if rest.length < n then .error (.truncated op)
    else .ok (decodeInstr op (rest.getD 0 0) (rest.getD 1 0), rest.drop n)

/-- A byte of a number: bits `8 * i + 7` to `8 * i`. -/
def byteOf (w i : Nat) : Byte := BitVec.ofNat 8 (w / 256 ^ i)

/-- The three bytes, in the order of their addresses, of a word numbered as spec/opcode_table.json numbers it. A one-byte
row's byte is bits 7..0. The table's only two-byte rows are those of the second page, and it numbers them with the first
byte, 0xCB, in bits 15..8. Any other word has its first byte in bits 7..0 and the next above it. Bits above `nbits` are 0. DEDUCED, unsafe
(log 12). -/
def tableBytes (nbits w : Nat) : List Byte :=
  let w := w % 2 ^ nbits
  if nbits = 16 ∧ byteOf w 1 = 0xCB then [byteOf w 1, byteOf w 0, byteOf w 2]
  else [byteOf w 0, byteOf w 1, byteOf w 2]

/-- The instruction the decoder reads from a word of the opcode table. -/
def decodeTableWord (nbits w : Nat) : Option Instr :=
  match decode (tableBytes nbits w) with
  | .ok (i, _) => some i
  | .error _ => none

/-- The bytes of an instruction in the order of their addresses: the opcode of its table row, then its operand bytes,
the low byte of n16 first (30_encoding.md R111, R123). -/
def encode (i : Instr) : List Byte :=
  match i with
  | .nop => [0x00]
  | .ld_BC_n16 n => [0x01, loByte n, hiByte n]
  | .ld_atBC_A => [0x02]
  | .inc_BC => [0x03]
  | .inc_B => [0x04]
  | .dec_B => [0x05]
  | .ld_B_n8 n => [0x06, n]
  | .rlca => [0x07]
  | .ld_atn16_SP n => [0x08, loByte n, hiByte n]
  | .add_HL_BC => [0x09]
  | .ld_A_atBC => [0x0A]
  | .dec_BC => [0x0B]
  | .inc_C => [0x0C]
  | .dec_C => [0x0D]
  | .ld_C_n8 n => [0x0E, n]
  | .rrca => [0x0F]
  | .stop_n8 n => [0x10, n]
  | .ld_DE_n16 n => [0x11, loByte n, hiByte n]
  | .ld_atDE_A => [0x12]
  | .inc_DE => [0x13]
  | .inc_D => [0x14]
  | .dec_D => [0x15]
  | .ld_D_n8 n => [0x16, n]
  | .rla => [0x17]
  | .jr_e8 e => [0x18, e]
  | .add_HL_DE => [0x19]
  | .ld_A_atDE => [0x1A]
  | .dec_DE => [0x1B]
  | .inc_E => [0x1C]
  | .dec_E => [0x1D]
  | .ld_E_n8 n => [0x1E, n]
  | .rra => [0x1F]
  | .jr_NZ_e8 e => [0x20, e]
  | .ld_HL_n16 n => [0x21, loByte n, hiByte n]
  | .ld_atHLinc_A => [0x22]
  | .inc_HL => [0x23]
  | .inc_H => [0x24]
  | .dec_H => [0x25]
  | .ld_H_n8 n => [0x26, n]
  | .daa => [0x27]
  | .jr_Z_e8 e => [0x28, e]
  | .add_HL_HL => [0x29]
  | .ld_A_atHLinc => [0x2A]
  | .dec_HL => [0x2B]
  | .inc_L => [0x2C]
  | .dec_L => [0x2D]
  | .ld_L_n8 n => [0x2E, n]
  | .cpl => [0x2F]
  | .jr_NC_e8 e => [0x30, e]
  | .ld_SP_n16 n => [0x31, loByte n, hiByte n]
  | .ld_atHLdec_A => [0x32]
  | .inc_SP => [0x33]
  | .inc_atHL => [0x34]
  | .dec_atHL => [0x35]
  | .ld_atHL_n8 n => [0x36, n]
  | .scf => [0x37]
  | .jr_C_e8 e => [0x38, e]
  | .add_HL_SP => [0x39]
  | .ld_A_atHLdec => [0x3A]
  | .dec_SP => [0x3B]
  | .inc_A => [0x3C]
  | .dec_A => [0x3D]
  | .ld_A_n8 n => [0x3E, n]
  | .ccf => [0x3F]
  | .ld_B_B => [0x40]
  | .ld_B_C => [0x41]
  | .ld_B_D => [0x42]
  | .ld_B_E => [0x43]
  | .ld_B_H => [0x44]
  | .ld_B_L => [0x45]
  | .ld_B_atHL => [0x46]
  | .ld_B_A => [0x47]
  | .ld_C_B => [0x48]
  | .ld_C_C => [0x49]
  | .ld_C_D => [0x4A]
  | .ld_C_E => [0x4B]
  | .ld_C_H => [0x4C]
  | .ld_C_L => [0x4D]
  | .ld_C_atHL => [0x4E]
  | .ld_C_A => [0x4F]
  | .ld_D_B => [0x50]
  | .ld_D_C => [0x51]
  | .ld_D_D => [0x52]
  | .ld_D_E => [0x53]
  | .ld_D_H => [0x54]
  | .ld_D_L => [0x55]
  | .ld_D_atHL => [0x56]
  | .ld_D_A => [0x57]
  | .ld_E_B => [0x58]
  | .ld_E_C => [0x59]
  | .ld_E_D => [0x5A]
  | .ld_E_E => [0x5B]
  | .ld_E_H => [0x5C]
  | .ld_E_L => [0x5D]
  | .ld_E_atHL => [0x5E]
  | .ld_E_A => [0x5F]
  | .ld_H_B => [0x60]
  | .ld_H_C => [0x61]
  | .ld_H_D => [0x62]
  | .ld_H_E => [0x63]
  | .ld_H_H => [0x64]
  | .ld_H_L => [0x65]
  | .ld_H_atHL => [0x66]
  | .ld_H_A => [0x67]
  | .ld_L_B => [0x68]
  | .ld_L_C => [0x69]
  | .ld_L_D => [0x6A]
  | .ld_L_E => [0x6B]
  | .ld_L_H => [0x6C]
  | .ld_L_L => [0x6D]
  | .ld_L_atHL => [0x6E]
  | .ld_L_A => [0x6F]
  | .ld_atHL_B => [0x70]
  | .ld_atHL_C => [0x71]
  | .ld_atHL_D => [0x72]
  | .ld_atHL_E => [0x73]
  | .ld_atHL_H => [0x74]
  | .ld_atHL_L => [0x75]
  | .halt => [0x76]
  | .ld_atHL_A => [0x77]
  | .ld_A_B => [0x78]
  | .ld_A_C => [0x79]
  | .ld_A_D => [0x7A]
  | .ld_A_E => [0x7B]
  | .ld_A_H => [0x7C]
  | .ld_A_L => [0x7D]
  | .ld_A_atHL => [0x7E]
  | .ld_A_A => [0x7F]
  | .add_A_B => [0x80]
  | .add_A_C => [0x81]
  | .add_A_D => [0x82]
  | .add_A_E => [0x83]
  | .add_A_H => [0x84]
  | .add_A_L => [0x85]
  | .add_A_atHL => [0x86]
  | .add_A_A => [0x87]
  | .adc_A_B => [0x88]
  | .adc_A_C => [0x89]
  | .adc_A_D => [0x8A]
  | .adc_A_E => [0x8B]
  | .adc_A_H => [0x8C]
  | .adc_A_L => [0x8D]
  | .adc_A_atHL => [0x8E]
  | .adc_A_A => [0x8F]
  | .sub_A_B => [0x90]
  | .sub_A_C => [0x91]
  | .sub_A_D => [0x92]
  | .sub_A_E => [0x93]
  | .sub_A_H => [0x94]
  | .sub_A_L => [0x95]
  | .sub_A_atHL => [0x96]
  | .sub_A_A => [0x97]
  | .sbc_A_B => [0x98]
  | .sbc_A_C => [0x99]
  | .sbc_A_D => [0x9A]
  | .sbc_A_E => [0x9B]
  | .sbc_A_H => [0x9C]
  | .sbc_A_L => [0x9D]
  | .sbc_A_atHL => [0x9E]
  | .sbc_A_A => [0x9F]
  | .and_A_B => [0xA0]
  | .and_A_C => [0xA1]
  | .and_A_D => [0xA2]
  | .and_A_E => [0xA3]
  | .and_A_H => [0xA4]
  | .and_A_L => [0xA5]
  | .and_A_atHL => [0xA6]
  | .and_A_A => [0xA7]
  | .xor_A_B => [0xA8]
  | .xor_A_C => [0xA9]
  | .xor_A_D => [0xAA]
  | .xor_A_E => [0xAB]
  | .xor_A_H => [0xAC]
  | .xor_A_L => [0xAD]
  | .xor_A_atHL => [0xAE]
  | .xor_A_A => [0xAF]
  | .or_A_B => [0xB0]
  | .or_A_C => [0xB1]
  | .or_A_D => [0xB2]
  | .or_A_E => [0xB3]
  | .or_A_H => [0xB4]
  | .or_A_L => [0xB5]
  | .or_A_atHL => [0xB6]
  | .or_A_A => [0xB7]
  | .cp_A_B => [0xB8]
  | .cp_A_C => [0xB9]
  | .cp_A_D => [0xBA]
  | .cp_A_E => [0xBB]
  | .cp_A_H => [0xBC]
  | .cp_A_L => [0xBD]
  | .cp_A_atHL => [0xBE]
  | .cp_A_A => [0xBF]
  | .ret_NZ => [0xC0]
  | .pop_BC => [0xC1]
  | .jp_NZ_n16 n => [0xC2, loByte n, hiByte n]
  | .jp_n16 n => [0xC3, loByte n, hiByte n]
  | .call_NZ_n16 n => [0xC4, loByte n, hiByte n]
  | .push_BC => [0xC5]
  | .add_A_n8 n => [0xC6, n]
  | .rst_00 => [0xC7]
  | .ret_Z => [0xC8]
  | .ret => [0xC9]
  | .jp_Z_n16 n => [0xCA, loByte n, hiByte n]
  | .prefix_CB op2 => [0xCB, op2]
  | .call_Z_n16 n => [0xCC, loByte n, hiByte n]
  | .call_n16 n => [0xCD, loByte n, hiByte n]
  | .adc_A_n8 n => [0xCE, n]
  | .rst_08 => [0xCF]
  | .ret_NC => [0xD0]
  | .pop_DE => [0xD1]
  | .jp_NC_n16 n => [0xD2, loByte n, hiByte n]
  | .illegal_D3 => [0xD3]
  | .call_NC_n16 n => [0xD4, loByte n, hiByte n]
  | .push_DE => [0xD5]
  | .sub_A_n8 n => [0xD6, n]
  | .rst_10 => [0xD7]
  | .ret_C => [0xD8]
  | .reti => [0xD9]
  | .jp_C_n16 n => [0xDA, loByte n, hiByte n]
  | .illegal_DB => [0xDB]
  | .call_C_n16 n => [0xDC, loByte n, hiByte n]
  | .illegal_DD => [0xDD]
  | .sbc_A_n8 n => [0xDE, n]
  | .rst_18 => [0xDF]
  | .ldh_atn8_A n => [0xE0, n]
  | .pop_HL => [0xE1]
  | .ldh_atC_A => [0xE2]
  | .illegal_E3 => [0xE3]
  | .illegal_E4 => [0xE4]
  | .push_HL => [0xE5]
  | .and_A_n8 n => [0xE6, n]
  | .rst_20 => [0xE7]
  | .add_SP_e8 e => [0xE8, e]
  | .jp_HL => [0xE9]
  | .ld_atn16_A n => [0xEA, loByte n, hiByte n]
  | .illegal_EB => [0xEB]
  | .illegal_EC => [0xEC]
  | .illegal_ED => [0xED]
  | .xor_A_n8 n => [0xEE, n]
  | .rst_28 => [0xEF]
  | .ldh_A_atn8 n => [0xF0, n]
  | .pop_AF => [0xF1]
  | .ldh_A_atC => [0xF2]
  | .di => [0xF3]
  | .illegal_F4 => [0xF4]
  | .push_AF => [0xF5]
  | .or_A_n8 n => [0xF6, n]
  | .rst_30 => [0xF7]
  | .ld_HL_SPe8 e => [0xF8, e]
  | .ld_SP_HL => [0xF9]
  | .ld_A_atn16 n => [0xFA, loByte n, hiByte n]
  | .ei => [0xFB]
  | .illegal_FC => [0xFC]
  | .illegal_FD => [0xFD]
  | .cp_A_n8 n => [0xFE, n]
  | .rst_38 => [0xFF]
  | .rlc_B => [0xCB, 0x00]
  | .rlc_C => [0xCB, 0x01]
  | .rlc_D => [0xCB, 0x02]
  | .rlc_E => [0xCB, 0x03]
  | .rlc_H => [0xCB, 0x04]
  | .rlc_L => [0xCB, 0x05]
  | .rlc_atHL => [0xCB, 0x06]
  | .rlc_A => [0xCB, 0x07]
  | .rrc_B => [0xCB, 0x08]
  | .rrc_C => [0xCB, 0x09]
  | .rrc_D => [0xCB, 0x0A]
  | .rrc_E => [0xCB, 0x0B]
  | .rrc_H => [0xCB, 0x0C]
  | .rrc_L => [0xCB, 0x0D]
  | .rrc_atHL => [0xCB, 0x0E]
  | .rrc_A => [0xCB, 0x0F]
  | .rl_B => [0xCB, 0x10]
  | .rl_C => [0xCB, 0x11]
  | .rl_D => [0xCB, 0x12]
  | .rl_E => [0xCB, 0x13]
  | .rl_H => [0xCB, 0x14]
  | .rl_L => [0xCB, 0x15]
  | .rl_atHL => [0xCB, 0x16]
  | .rl_A => [0xCB, 0x17]
  | .rr_B => [0xCB, 0x18]
  | .rr_C => [0xCB, 0x19]
  | .rr_D => [0xCB, 0x1A]
  | .rr_E => [0xCB, 0x1B]
  | .rr_H => [0xCB, 0x1C]
  | .rr_L => [0xCB, 0x1D]
  | .rr_atHL => [0xCB, 0x1E]
  | .rr_A => [0xCB, 0x1F]
  | .sla_B => [0xCB, 0x20]
  | .sla_C => [0xCB, 0x21]
  | .sla_D => [0xCB, 0x22]
  | .sla_E => [0xCB, 0x23]
  | .sla_H => [0xCB, 0x24]
  | .sla_L => [0xCB, 0x25]
  | .sla_atHL => [0xCB, 0x26]
  | .sla_A => [0xCB, 0x27]
  | .sra_B => [0xCB, 0x28]
  | .sra_C => [0xCB, 0x29]
  | .sra_D => [0xCB, 0x2A]
  | .sra_E => [0xCB, 0x2B]
  | .sra_H => [0xCB, 0x2C]
  | .sra_L => [0xCB, 0x2D]
  | .sra_atHL => [0xCB, 0x2E]
  | .sra_A => [0xCB, 0x2F]
  | .swap_B => [0xCB, 0x30]
  | .swap_C => [0xCB, 0x31]
  | .swap_D => [0xCB, 0x32]
  | .swap_E => [0xCB, 0x33]
  | .swap_H => [0xCB, 0x34]
  | .swap_L => [0xCB, 0x35]
  | .swap_atHL => [0xCB, 0x36]
  | .swap_A => [0xCB, 0x37]
  | .srl_B => [0xCB, 0x38]
  | .srl_C => [0xCB, 0x39]
  | .srl_D => [0xCB, 0x3A]
  | .srl_E => [0xCB, 0x3B]
  | .srl_H => [0xCB, 0x3C]
  | .srl_L => [0xCB, 0x3D]
  | .srl_atHL => [0xCB, 0x3E]
  | .srl_A => [0xCB, 0x3F]
  | .bit_0_B => [0xCB, 0x40]
  | .bit_0_C => [0xCB, 0x41]
  | .bit_0_D => [0xCB, 0x42]
  | .bit_0_E => [0xCB, 0x43]
  | .bit_0_H => [0xCB, 0x44]
  | .bit_0_L => [0xCB, 0x45]
  | .bit_0_atHL => [0xCB, 0x46]
  | .bit_0_A => [0xCB, 0x47]
  | .bit_1_B => [0xCB, 0x48]
  | .bit_1_C => [0xCB, 0x49]
  | .bit_1_D => [0xCB, 0x4A]
  | .bit_1_E => [0xCB, 0x4B]
  | .bit_1_H => [0xCB, 0x4C]
  | .bit_1_L => [0xCB, 0x4D]
  | .bit_1_atHL => [0xCB, 0x4E]
  | .bit_1_A => [0xCB, 0x4F]
  | .bit_2_B => [0xCB, 0x50]
  | .bit_2_C => [0xCB, 0x51]
  | .bit_2_D => [0xCB, 0x52]
  | .bit_2_E => [0xCB, 0x53]
  | .bit_2_H => [0xCB, 0x54]
  | .bit_2_L => [0xCB, 0x55]
  | .bit_2_atHL => [0xCB, 0x56]
  | .bit_2_A => [0xCB, 0x57]
  | .bit_3_B => [0xCB, 0x58]
  | .bit_3_C => [0xCB, 0x59]
  | .bit_3_D => [0xCB, 0x5A]
  | .bit_3_E => [0xCB, 0x5B]
  | .bit_3_H => [0xCB, 0x5C]
  | .bit_3_L => [0xCB, 0x5D]
  | .bit_3_atHL => [0xCB, 0x5E]
  | .bit_3_A => [0xCB, 0x5F]
  | .bit_4_B => [0xCB, 0x60]
  | .bit_4_C => [0xCB, 0x61]
  | .bit_4_D => [0xCB, 0x62]
  | .bit_4_E => [0xCB, 0x63]
  | .bit_4_H => [0xCB, 0x64]
  | .bit_4_L => [0xCB, 0x65]
  | .bit_4_atHL => [0xCB, 0x66]
  | .bit_4_A => [0xCB, 0x67]
  | .bit_5_B => [0xCB, 0x68]
  | .bit_5_C => [0xCB, 0x69]
  | .bit_5_D => [0xCB, 0x6A]
  | .bit_5_E => [0xCB, 0x6B]
  | .bit_5_H => [0xCB, 0x6C]
  | .bit_5_L => [0xCB, 0x6D]
  | .bit_5_atHL => [0xCB, 0x6E]
  | .bit_5_A => [0xCB, 0x6F]
  | .bit_6_B => [0xCB, 0x70]
  | .bit_6_C => [0xCB, 0x71]
  | .bit_6_D => [0xCB, 0x72]
  | .bit_6_E => [0xCB, 0x73]
  | .bit_6_H => [0xCB, 0x74]
  | .bit_6_L => [0xCB, 0x75]
  | .bit_6_atHL => [0xCB, 0x76]
  | .bit_6_A => [0xCB, 0x77]
  | .bit_7_B => [0xCB, 0x78]
  | .bit_7_C => [0xCB, 0x79]
  | .bit_7_D => [0xCB, 0x7A]
  | .bit_7_E => [0xCB, 0x7B]
  | .bit_7_H => [0xCB, 0x7C]
  | .bit_7_L => [0xCB, 0x7D]
  | .bit_7_atHL => [0xCB, 0x7E]
  | .bit_7_A => [0xCB, 0x7F]
  | .res_0_B => [0xCB, 0x80]
  | .res_0_C => [0xCB, 0x81]
  | .res_0_D => [0xCB, 0x82]
  | .res_0_E => [0xCB, 0x83]
  | .res_0_H => [0xCB, 0x84]
  | .res_0_L => [0xCB, 0x85]
  | .res_0_atHL => [0xCB, 0x86]
  | .res_0_A => [0xCB, 0x87]
  | .res_1_B => [0xCB, 0x88]
  | .res_1_C => [0xCB, 0x89]
  | .res_1_D => [0xCB, 0x8A]
  | .res_1_E => [0xCB, 0x8B]
  | .res_1_H => [0xCB, 0x8C]
  | .res_1_L => [0xCB, 0x8D]
  | .res_1_atHL => [0xCB, 0x8E]
  | .res_1_A => [0xCB, 0x8F]
  | .res_2_B => [0xCB, 0x90]
  | .res_2_C => [0xCB, 0x91]
  | .res_2_D => [0xCB, 0x92]
  | .res_2_E => [0xCB, 0x93]
  | .res_2_H => [0xCB, 0x94]
  | .res_2_L => [0xCB, 0x95]
  | .res_2_atHL => [0xCB, 0x96]
  | .res_2_A => [0xCB, 0x97]
  | .res_3_B => [0xCB, 0x98]
  | .res_3_C => [0xCB, 0x99]
  | .res_3_D => [0xCB, 0x9A]
  | .res_3_E => [0xCB, 0x9B]
  | .res_3_H => [0xCB, 0x9C]
  | .res_3_L => [0xCB, 0x9D]
  | .res_3_atHL => [0xCB, 0x9E]
  | .res_3_A => [0xCB, 0x9F]
  | .res_4_B => [0xCB, 0xA0]
  | .res_4_C => [0xCB, 0xA1]
  | .res_4_D => [0xCB, 0xA2]
  | .res_4_E => [0xCB, 0xA3]
  | .res_4_H => [0xCB, 0xA4]
  | .res_4_L => [0xCB, 0xA5]
  | .res_4_atHL => [0xCB, 0xA6]
  | .res_4_A => [0xCB, 0xA7]
  | .res_5_B => [0xCB, 0xA8]
  | .res_5_C => [0xCB, 0xA9]
  | .res_5_D => [0xCB, 0xAA]
  | .res_5_E => [0xCB, 0xAB]
  | .res_5_H => [0xCB, 0xAC]
  | .res_5_L => [0xCB, 0xAD]
  | .res_5_atHL => [0xCB, 0xAE]
  | .res_5_A => [0xCB, 0xAF]
  | .res_6_B => [0xCB, 0xB0]
  | .res_6_C => [0xCB, 0xB1]
  | .res_6_D => [0xCB, 0xB2]
  | .res_6_E => [0xCB, 0xB3]
  | .res_6_H => [0xCB, 0xB4]
  | .res_6_L => [0xCB, 0xB5]
  | .res_6_atHL => [0xCB, 0xB6]
  | .res_6_A => [0xCB, 0xB7]
  | .res_7_B => [0xCB, 0xB8]
  | .res_7_C => [0xCB, 0xB9]
  | .res_7_D => [0xCB, 0xBA]
  | .res_7_E => [0xCB, 0xBB]
  | .res_7_H => [0xCB, 0xBC]
  | .res_7_L => [0xCB, 0xBD]
  | .res_7_atHL => [0xCB, 0xBE]
  | .res_7_A => [0xCB, 0xBF]
  | .set_0_B => [0xCB, 0xC0]
  | .set_0_C => [0xCB, 0xC1]
  | .set_0_D => [0xCB, 0xC2]
  | .set_0_E => [0xCB, 0xC3]
  | .set_0_H => [0xCB, 0xC4]
  | .set_0_L => [0xCB, 0xC5]
  | .set_0_atHL => [0xCB, 0xC6]
  | .set_0_A => [0xCB, 0xC7]
  | .set_1_B => [0xCB, 0xC8]
  | .set_1_C => [0xCB, 0xC9]
  | .set_1_D => [0xCB, 0xCA]
  | .set_1_E => [0xCB, 0xCB]
  | .set_1_H => [0xCB, 0xCC]
  | .set_1_L => [0xCB, 0xCD]
  | .set_1_atHL => [0xCB, 0xCE]
  | .set_1_A => [0xCB, 0xCF]
  | .set_2_B => [0xCB, 0xD0]
  | .set_2_C => [0xCB, 0xD1]
  | .set_2_D => [0xCB, 0xD2]
  | .set_2_E => [0xCB, 0xD3]
  | .set_2_H => [0xCB, 0xD4]
  | .set_2_L => [0xCB, 0xD5]
  | .set_2_atHL => [0xCB, 0xD6]
  | .set_2_A => [0xCB, 0xD7]
  | .set_3_B => [0xCB, 0xD8]
  | .set_3_C => [0xCB, 0xD9]
  | .set_3_D => [0xCB, 0xDA]
  | .set_3_E => [0xCB, 0xDB]
  | .set_3_H => [0xCB, 0xDC]
  | .set_3_L => [0xCB, 0xDD]
  | .set_3_atHL => [0xCB, 0xDE]
  | .set_3_A => [0xCB, 0xDF]
  | .set_4_B => [0xCB, 0xE0]
  | .set_4_C => [0xCB, 0xE1]
  | .set_4_D => [0xCB, 0xE2]
  | .set_4_E => [0xCB, 0xE3]
  | .set_4_H => [0xCB, 0xE4]
  | .set_4_L => [0xCB, 0xE5]
  | .set_4_atHL => [0xCB, 0xE6]
  | .set_4_A => [0xCB, 0xE7]
  | .set_5_B => [0xCB, 0xE8]
  | .set_5_C => [0xCB, 0xE9]
  | .set_5_D => [0xCB, 0xEA]
  | .set_5_E => [0xCB, 0xEB]
  | .set_5_H => [0xCB, 0xEC]
  | .set_5_L => [0xCB, 0xED]
  | .set_5_atHL => [0xCB, 0xEE]
  | .set_5_A => [0xCB, 0xEF]
  | .set_6_B => [0xCB, 0xF0]
  | .set_6_C => [0xCB, 0xF1]
  | .set_6_D => [0xCB, 0xF2]
  | .set_6_E => [0xCB, 0xF3]
  | .set_6_H => [0xCB, 0xF4]
  | .set_6_L => [0xCB, 0xF5]
  | .set_6_atHL => [0xCB, 0xF6]
  | .set_6_A => [0xCB, 0xF7]
  | .set_7_B => [0xCB, 0xF8]
  | .set_7_C => [0xCB, 0xF9]
  | .set_7_D => [0xCB, 0xFA]
  | .set_7_E => [0xCB, 0xFB]
  | .set_7_H => [0xCB, 0xFC]
  | .set_7_L => [0xCB, 0xFD]
  | .set_7_atHL => [0xCB, 0xFE]
  | .set_7_A => [0xCB, 0xFF]

end Sys2Proof
end

