-- ==== Sys2Proof/Machine/Memory.lean ====
section
/-! DEFINITION. Storage as a list of (key, byte) pairs in one canonical form. -/

namespace Sys2Proof.Machine

/-- What an unlisted key reads as. DESIGN CHOICE, unsafe (log 2): the spec leaves the power-on contents open
(10_state.md R53). -/
def Memory.unlisted : Byte := 0x00

/-- The byte at a key. -/
def Memory.read (m : Memory) (k : Nat) : Byte :=
  match m with
  | [] => Memory.unlisted
  | (k', v) :: rest => if k = k' then v else Memory.read rest k

/-- Store a byte at a key, keeping the canonical form: storing what an unlisted key reads as takes the entry out. -/
def Memory.write (m : Memory) (k : Nat) (v : Byte) : Memory :=
  match m with
  | [] => if v = Memory.unlisted then [] else [(k, v)]
  | (k', v') :: rest =>
    if k < k' then (if v = Memory.unlisted then (k', v') :: rest else (k, v) :: (k', v') :: rest)
    else if k = k' then (if v = Memory.unlisted then rest else (k, v) :: rest)
    else (k', v') :: Memory.write rest k v

/-- Every key of `m` is above `k`. -/
def Memory.above (k : Nat) (m : Memory) : Bool := m.all fun e => decide (k < e.1)

/-- The canonical form: keys strictly rising, and no byte equal to what an unlisted key reads as. -/
def Memory.wf (m : Memory) : Bool :=
  match m with
  | [] => true
  | (k, v) :: rest => decide (v ≠ Memory.unlisted) && Memory.above k rest && Memory.wf rest

end Sys2Proof.Machine
end

