-- ==== Sys2Proof/Machine/Bus.lean ====
section
/-! DEFINITION. The bus router (20_memory.md): the fixed map, the dispatch, the devices and the three operations. -/

namespace Sys2Proof.Machine

/-- The twelve region kinds (20_memory.md R72; 00_scope.md R18). -/
inductive MMDevice where
  | romBank0 | romSwitchable | videoRam | externalRam | workRam0 | workRamX | echoRam | oam | unusable | ioRegisters
  | highRam | interruptEnable
  deriving DecidableEq, Repr

/-- One entry of the map (20_memory.md R72). -/
structure MapEntry where
  device : MMDevice
  base : Nat
  size : Nat
  deriving DecidableEq, Repr

/-- The twelve entries in their order (20_memory.md R72). -/
def memoryMap : List MapEntry :=
  [ ⟨.romBank0, 0x0000, 0x4000⟩, ⟨.romSwitchable, 0x4000, 0x4000⟩, ⟨.videoRam, 0x8000, 0x2000⟩,
    ⟨.externalRam, 0xA000, 0x2000⟩, ⟨.workRam0, 0xC000, 0x1000⟩, ⟨.workRamX, 0xD000, 0x1000⟩,
    ⟨.echoRam, 0xE000, 0x1E00⟩, ⟨.oam, 0xFE00, 0xA0⟩, ⟨.unusable, 0xFEA0, 0x60⟩, ⟨.ioRegisters, 0xFF00, 0x80⟩,
    ⟨.highRam, 0xFF80, 0x7F⟩, ⟨.interruptEnable, 0xFFFF, 0x1⟩ ]

/-- Whether an entry holds an address: `base <= a < base + size` (20_memory.md R74). -/
def MapEntry.holds (e : MapEntry) (a : Nat) : Bool := decide (e.base ≤ a) && decide (a < e.base + e.size)

/-- The first entry of a map that holds the address (20_memory.md R74). -/
def firstEntry (map : List MapEntry) (a : Nat) : Option MapEntry :=
  match map with
  | [] => none
  | e :: rest => if e.holds a then some e else firstEntry rest a

/-- The device of an address and the device-local offset (20_memory.md R74). The second case cannot occur with the
fixed map (R75; `dispatch_total` in Laws/Bus.lean). -/
def dispatch (a : Word) : MMDevice × Nat :=
  match firstEntry memoryMap a.toNat with
  | some e => (e.device, a.toNat - e.base)
  | none => (.unusable, 0)

/-- The device and offset that hold the byte: the echo window forwards to work RAM (20_memory.md R79). -/
def resolve (a : Word) : MMDevice × Nat :=
  match dispatch a with
  | (.echoRam, o) => if o < 0x1000 then (.workRam0, o) else (.workRamX, o - 0x1000)
  | p => p

/-- The bank the switchable work-RAM window shows (20_memory.md R82). -/
def State.wramxBankShown (s : State) : Nat :=
  match s.wramx with
  | .fixed => 0
  | .external => Config.extWramxBank s.ext

/-- The bus address of a device's first byte (20_memory.md R72). -/
def deviceBase (d : MMDevice) : Nat :=
  match d with
  | .romBank0 => 0x0000
  | .romSwitchable => 0x4000
  | .videoRam => 0x8000
  | .externalRam => 0xA000
  | .workRam0 => 0xC000
  | .workRamX => 0xD000
  | .echoRam => 0xE000
  | .oam => 0xFE00
  | .unusable => 0xFEA0
  | .ioRegisters => 0xFF00
  | .highRam => 0xFF80
  | .interruptEnable => 0xFFFF

/-- The storage key of a device's byte: its bus address, and for the switchable work RAM 0x10000 more for each bank
above the fixed one. DESIGN CHOICE, safe (log 7, log 8): no program sees a key. -/
def State.storageKey (s : State) (d : MMDevice) (o : Nat) : Nat :=
  match d with
  | .workRamX => deviceBase d + o + 0x10000 * s.wramxBankShown
  | _ => deviceBase d + o

/-- How a device answers in a state. -/
inductive Access where
  /-- Plain storage (20_memory.md R82). -/
  | ram
  /-- Storage that accepts and ignores writes: the reference ROM (20_memory.md R83). -/
  | rom
  /-- The unusable window (20_memory.md R78). -/
  | sentinel
  /-- Plain storage behind which the listed kinds of access are rejected (20_memory.md R85). -/
  | guarded (rejected : List AccessKind)
  /-- An open device (00_scope.md R9). -/
  | external
  deriving DecidableEq, Repr

/-- How the device `d` answers an access to the bus address `a` (20_memory.md R78, R82 to R85). -/
def State.access (s : State) (d : MMDevice) (a : Word) : Access :=
  match d with
  | .romBank0 | .romSwitchable =>
    match s.cart with
    | .flat => .rom
    | .external => .external
  | .externalRam =>
    match s.cart with
    | .flat => .ram
    | .external => .external
  | .videoRam | .oam =>
    match s.video with
    | .unrestricted => .ram
    | .external => .external
  | .ioRegisters =>
    match s.io with
    | .plain => .ram
    | .rejecting accesses => .guarded ((accesses.filter fun x => decide (x.1 = a)).map Prod.snd)
    | .external => .external
  | .unusable => .sentinel
  | .workRam0 | .workRamX | .echoRam | .highRam | .interruptEnable => .ram

/-- The storage key behind a bus address. -/
def State.keyOf (s : State) (a : Word) : Nat := s.storageKey (resolve a).1 (resolve a).2

/-- How the device behind a bus address answers. -/
def State.accessOf (s : State) (a : Word) : Access := s.access (resolve a).1 a

/-- The byte kept behind a bus address. -/
def State.kept (s : State) (a : Word) : Byte := s.mem.read (s.keyOf a)

/-- The bus `read` of one byte (20_memory.md R71, R74): `MemRead(a, 1)` of 00_scope.md R13. -/
def busRead (a : Word) (s : State) : Except Fault (Byte × State) :=
  match s.accessOf a with
  | .ram | .rom => .ok (s.kept a, s)
  | .sentinel => .ok (Config.unusableSentinel, s)
  | .guarded ks => if AccessKind.read ∈ ks then .error (.memoryAccess a .read) else .ok (s.kept a, s)
  | .external =>
    match Config.extRead s.ext a (s.kept a) with
    | some (v, e) => .ok (v, { s with ext := e })
    | none => .error (.memoryAccess a .read)

/-- The bus `write` of one byte (20_memory.md R71, R74): `MemWrite(a, 1, v)` of 00_scope.md R13. -/
def busWrite (a : Word) (v : Byte) (s : State) : Except Fault State :=
  match s.accessOf a with
  | .ram => .ok { s with mem := s.mem.write (s.keyOf a) v }
  | .rom | .sentinel => .ok s
  | .guarded ks =>
    if AccessKind.write ∈ ks then .error (.memoryAccess a .write) else .ok { s with mem := s.mem.write (s.keyOf a) v }
  | .external =>
    match Config.extWrite s.ext a (s.kept a) v with
    | some (v', e) => .ok { s with mem := s.mem.write (s.keyOf a) v', ext := e }
    | none => .error (.memoryAccess a .write)

/-- The bus `peek` of one byte (20_memory.md R71, R77): `MemPeek(a)` of 00_scope.md R13. It gives no next state, so it
changes nothing; where a read of the same byte is accepted it answers the byte that read would return. -/
def busPeek (a : Word) (s : State) : Except Fault Byte :=
  match s.accessOf a with
  | .ram | .rom => .ok (s.kept a)
  | .sentinel => .ok Config.unusableSentinel
  | .guarded ks => if AccessKind.peek ∈ ks then .error (.memoryAccess a .peek) else .ok (s.kept a)
  | .external =>
    match Config.extPeek s.ext a (s.kept a), Config.extRead s.ext a (s.kept a) with
    | none, _ => .error (.memoryAccess a .peek)
    | some _, some (v, _) => .ok v
    | some v, none => .ok v

/-- The reference devices stand behind every open parameter (20_memory.md R82 to R84). -/
def State.referenceDevices (s : State) : Prop :=
  s.cart = .flat ∧ s.io = .plain ∧ s.video = .unrestricted ∧ s.wramx = .fixed

end Sys2Proof.Machine
end

