-- ==== Sys2Proof/Machine/Operands.lean ====
section
/-! DEFINITION. The operand forms (30_encoding.md R114 to R118, R124). -/

namespace Sys2Proof.Machine

/-- `r8get(i)` (30_encoding.md R115): a register's value, or the byte at HL. -/
def r8get (r : R8) (s : State) : Except Fault (Byte × State) :=
  match r with
  | .b => .ok (s.B, s)
  | .c => .ok (s.C, s)
  | .d => .ok (s.D, s)
  | .e => .ok (s.E, s)
  | .h => .ok (s.H, s)
  | .l => .ok (s.L, s)
  | .atHL => busRead s.hl s
  | .a => .ok (s.A, s)

/-- `r8set(i, v)` (30_encoding.md R115): write a register, or the byte at HL. -/
def r8set (r : R8) (v : Byte) (s : State) : Except Fault State :=
  match r with
  | .b => .ok (s.setB v)
  | .c => .ok (s.setC v)
  | .d => .ok (s.setD v)
  | .e => .ok (s.setE v)
  | .h => .ok (s.setH v)
  | .l => .ok (s.setL v)
  | .atHL => busWrite s.hl v s
  | .a => .ok (s.setA v)

/-- The value of `r16(i)` (30_encoding.md R116). -/
def r16get (r : R16) (s : State) : Word :=
  match r with
  | .bc => s.bc
  | .de => s.de
  | .hl => s.hl
  | .sp => s.sp

/-- `r16(i) <- v` (30_encoding.md R116). -/
def r16set (r : R16) (v : Word) (s : State) : State :=
  match r with
  | .bc => s.setBC v
  | .de => s.setDE v
  | .hl => s.setHL v
  | .sp => s.setSP v

/-- The value of `r16stk(i)` (30_encoding.md R117). -/
def r16stkGet (r : R16Stk) (s : State) : Word :=
  match r with
  | .bc => s.bc
  | .de => s.de
  | .hl => s.hl
  | .af => s.AF

/-- `r16stk(i) <- v` (30_encoding.md R117; AF as 10_state.md R34). -/
def r16stkSet (r : R16Stk) (v : Word) (s : State) : State :=
  match r with
  | .bc => s.setBC v
  | .de => s.setDE v
  | .hl => s.setHL v
  | .af => s.setAF v

/-- `r16mem(i)` (30_encoding.md R118): the address, and the state with HL changed where the form changes it. -/
def r16mem (r : R16Mem) (s : State) : Word × State :=
  match r with
  | .bc => (s.bc, s)
  | .de => (s.de, s)
  | .hlInc => takeAndIncrement .hl s
  | .hlDec => takeAndDecrement .hl s

/-- The address of the LDH forms, `0xFF00 | n` (30_encoding.md R124). -/
def ldhAddr (n : Byte) : Word := 0xFF00 ||| zext16 n

/-- A form's cycle count: `reg` for a register operand, `mem` for `[HL]`. -/
def cyclesOf (r : R8) (reg mem : Nat) : Nat :=
  match r with
  | .atHL => mem
  | .b | .c | .d | .e | .h | .l | .a => reg

end Sys2Proof.Machine
end

