-- ==== Sys2Proof/Machine/Ops.lean ====
section
/-! DEFINITION. Fetch, the stack, the interrupt logic (taking an interrupt and returning from one), and how a meaning's
result becomes the outcome of a step (00_scope.md R13 to R17; 60_exceptions.md R378 to R388). -/

namespace Sys2Proof.Machine

/-- The outcome type of the machine. -/
abbrev Out := Host.Outcome State Fault Refusal

/-- A finished instruction gives the next state, a failed access its fault (60_exceptions.md R372). -/
def outcome (x : Except Fault State) : Out :=
  match x with
  | .ok s => .next s
  | .error f => .fault f

/-- `fetch8()` (00_scope.md R14). -/
def fetch8 (s : State) : Except Fault (Byte × State) := do
  let (v, s) ← busRead s.pc s
  .ok (v, s.setPC (s.pc + 1))

/-- `n` bytes fetched in increasing address order (30_encoding.md R112). -/
def fetchBytes (n : Nat) (s : State) : Except Fault (List Byte × State) :=
  match n with
  | 0 => .ok ([], s)
  | n + 1 => do
    let (v, s) ← fetch8 s
    let (vs, s) ← fetchBytes n s
    .ok (v :: vs, s)

/-- Fetch one whole instruction: the opcode byte, then the bytes its length asks for, and decode them (30_encoding.md
R111, R112, R127). -/
def fetchInstr (s : State) : Except Fault (Instr × State) := do
  let (op, s) ← fetch8 s
  let (rest, s) ← fetchBytes (instrLength op - 1) s
  .ok (decodeInstr op (rest.getD 0 0) (rest.getD 1 0), s)

/-- `push16(v)` (00_scope.md R15): the high byte at SP - 1, then the low byte at SP - 2. -/
def push16 (v : Word) (s : State) : Except Fault State := do
  let s := s.setSP (s.sp - 1)
  let s ← busWrite s.sp (hiByte v) s
  let s := s.setSP (s.sp - 1)
  busWrite s.sp (loByte v) s

/-- `pop16()` (00_scope.md R15): the low byte at SP, then the high byte at SP + 1. -/
def pop16 (s : State) : Except Fault (Word × State) := do
  let (lo, s) ← busRead s.sp s
  let s := s.setSP (s.sp + 1)
  let (hi, s) ← busRead s.sp s
  .ok (join hi lo, s.setSP (s.sp + 1))

/-- The address of the interrupt-enable register IE (10_state.md R47). -/
def ieAddr : Word := 0xFFFF

/-- The address of the interrupt-flag register IF (10_state.md R48). -/
def ifAddr : Word := 0xFF0F

/-- `irq_pending()` (60_exceptions.md R380). -/
def irqPending (s : State) : Except Fault Byte := do
  let enabled ← busPeek ieAddr s
  let requested ← busPeek ifAddr s
  .ok (enabled &&& requested &&& 0x1F)

/-- What the step finds pending: the interrupt test is made only when `halted` or IME is set (30_encoding.md R110;
60_exceptions.md R380). -/
def pendingAtStart (s : State) : Except Fault Byte :=
  if s.halted || s.ime then irqPending s else .ok 0

/-- The index of the lowest set bit of the pending interrupts: the fixed priority (60_exceptions.md R384). -/
def lowestSetBit (p : Byte) : Nat :=
  if p.getLsbD 0 then 0
  else if p.getLsbD 1 then 1
  else if p.getLsbD 2 then 2
  else if p.getLsbD 3 then 3
  else 4

/-- The vector of interrupt `k`: `0x0040 + 8 * k` (60_exceptions.md R378). -/
def interruptVector (k : Nat) : Word := 0x0040 + 8 * BitVec.ofNat 16 k

/-- Interrupt entry for the pending set `p` (60_exceptions.md R382, R383). -/
def interruptEntry (p : Byte) (s : State) : Except Fault State := do
  let k := lowestSetBit p
  let s := (s.setIME false).setEiDelay false
  let s ← push16 s.pc s
  let (iflag, s) ← busRead ifAddr s
  let s ← busWrite ifAddr (iflag &&& ~~~(1#8 <<< k)) s
  .ok ((s.setPC (interruptVector k)).setCycles 5)

/-- Return from an interrupt (60_exceptions.md R386; 43_jumps.md R269): `PC <- pop16(); IME <- 1`. -/
def returnFromInterrupt (s : State) : Except Fault State := do
  let (t, s) ← pop16 s
  .ok ((s.setPC t).setIME true)

/-- The idle step of the halted state (60_exceptions.md R381). -/
def idle (s : State) : State := s.setCycles Config.haltIdleCycles

/-- The end of a step that executed an instruction (60_exceptions.md R385): `promote` is the `ei_delay` latched at the
step's start. -/
def promoteEi (promote : Bool) (s : State) : State :=
  if promote && s.eiDelay then (s.setIME true).setEiDelay false else s

/-- The end of a step on every outcome: a failed step commits nothing (60_exceptions.md R372). -/
def afterInstr (promote : Bool) (o : Out) : Out :=
  match o with
  | .next s => .next (promoteEi promote s)
  | .fault f => .fault f
  | .refused r => .refused r

/-- The step of 30_encoding.md R110, for the meanings `run` of the instructions. -/
def stepWith (run : Instr → State → Out) (s : State) : Out :=
  match pendingAtStart s with
  | .error f => .fault f
  | .ok p =>
    if s.halted && p == 0 then .next (idle s)
    else if s.ime && p != 0 then outcome (interruptEntry p (s.setHalted false))
    else
      match fetchInstr (s.setHalted false) with
      | .error f => .fault f
      | .ok (i, s1) => afterInstr s.eiDelay (run i s1)

/-- The state with the reference device attached behind a bus address (log 13). -/
def State.attachReference (s : State) (a : Word) : State :=
  match (resolve a).1 with
  | .romBank0 | .romSwitchable | .externalRam => { s with cart := .flat }
  | .videoRam | .oam => { s with video := .unrestricted }
  | .ioRegisters => { s with io := .plain }
  | .workRam0 | .workRamX | .echoRam | .unusable | .highRam | .interruptEnable => s

/-- Load bytes from an address up, as an image is loaded from outside the machine (log 13). -/
def loadBytes (bytes : List Byte) (a : Word) (s : State) : State :=
  match bytes with
  | [] => s
  | v :: rest =>
    let s := s.attachReference a
    loadBytes rest (a + 1) { s with mem := s.mem.write (s.keyOf a) v }

/-- A machine that will fetch at its next step: running, and with no interrupt it would take first (log 13). -/
def readyToFetch (s : State) : State :=
  match irqPending s with
  | .ok p => { s with halted := false, ime := s.ime && p == 0 }
  | .error _ => { s with halted := false, ime := false }

/-- The instruction of a table word placed at PC, ready to be fetched by the next step (log 13). -/
def placeTableWord (s : State) (nbits w : Nat) : State := readyToFetch (loadBytes (tableBytes nbits w) s.pc s)

end Sys2Proof.Machine
end

