-- ==== Sys2Proof/Machine/Alu16.lean ====
section
/-! DEFINITION. 16-bit arithmetic (42_alu16.md). A meaning runs after the fetch: PC is the address after the
instruction's bytes (log 9). -/

namespace Sys2Proof.Machine

/-- `INC r16` (R240). -/
def incR16 (rp : R16) (s : State) : Except Fault State := .ok ((r16set rp (r16get rp s + 1) s).setCycles 2)

/-- `DEC r16` (R241). -/
def decR16 (rp : R16) (s : State) : Except Fault State := .ok ((r16set rp (r16get rp s - 1) s).setCycles 2)

/-- `ADD HL,r16` (R242): fZ is not written. -/
def addHL (rp : R16) (s : State) : Except Fault State :=
  let (r, h, c) := addHLResult s.hl (r16get rp s)
  .ok (((s.setHL r).setFlags s.fZ false h c).setCycles 2)

/-- `INC BC` (42_alu16.md R240). -/
def execInc_BC (s : State) : Out := outcome (incR16 .bc s)
/-- `ADD HL,BC` (42_alu16.md R242). -/
def execAdd_HL_BC (s : State) : Out := outcome (addHL .bc s)
/-- `DEC BC` (42_alu16.md R241). -/
def execDec_BC (s : State) : Out := outcome (decR16 .bc s)
/-- `INC DE` (42_alu16.md R240). -/
def execInc_DE (s : State) : Out := outcome (incR16 .de s)
/-- `ADD HL,DE` (42_alu16.md R242). -/
def execAdd_HL_DE (s : State) : Out := outcome (addHL .de s)
/-- `DEC DE` (42_alu16.md R241). -/
def execDec_DE (s : State) : Out := outcome (decR16 .de s)
/-- `INC HL` (42_alu16.md R240). -/
def execInc_HL (s : State) : Out := outcome (incR16 .hl s)
/-- `ADD HL,HL` (42_alu16.md R242). -/
def execAdd_HL_HL (s : State) : Out := outcome (addHL .hl s)
/-- `DEC HL` (42_alu16.md R241). -/
def execDec_HL (s : State) : Out := outcome (decR16 .hl s)
/-- `INC SP` (42_alu16.md R240). -/
def execInc_SP (s : State) : Out := outcome (incR16 .sp s)
/-- `ADD HL,SP` (42_alu16.md R242). -/
def execAdd_HL_SP (s : State) : Out := outcome (addHL .sp s)
/-- `DEC SP` (42_alu16.md R241). -/
def execDec_SP (s : State) : Out := outcome (decR16 .sp s)

end Sys2Proof.Machine
end

