-- ==== Sys2Proof/Machine/Alu8.lean ====
section
/-! DEFINITION. 8-bit arithmetic and logic (41_alu8.md). A meaning runs after the fetch: PC is the address after the
instruction's bytes (log 9). -/

namespace Sys2Proof.Machine

/-- The effect of an ALU operation on A and F (R193): every operation but CP writes A, every one writes all four flags. -/
def aluEffect (op : AluOp) (v : Byte) (s : State) : State :=
  let x := aluResult op s.A v s.fC
  (if aluWrites op then s.setA x.r else s).setFlags x.z x.n x.h x.c

/-- `aluop A,r8` and `aluop A,[HL]` (R194 to R216). -/
def alu8 (op : AluOp) (src : R8) (s : State) : Except Fault State := do
  let (v, s) ← r8get src s
  .ok ((aluEffect op v s).setCycles (cyclesOf src 1 2))

/-- `aluop A,n8` (R196, R199, R202, R205, R208, R211, R214, R217). -/
def aluImm (op : AluOp) (n : Byte) (s : State) : Except Fault State := .ok ((aluEffect op n s).setCycles 2)

/-- `INC r8` and `INC [HL]` (R218, R219). -/
def inc8 (r : R8) (s : State) : Except Fault State := do
  let (v, s) ← r8get r s
  let x := inc8Result v s.fC
  let s ← r8set r x.r s
  .ok ((s.setFlags x.z x.n x.h x.c).setCycles (cyclesOf r 1 3))

/-- `DEC r8` and `DEC [HL]` (R220, R221). -/
def dec8 (r : R8) (s : State) : Except Fault State := do
  let (v, s) ← r8get r s
  let x := dec8Result v s.fC
  let s ← r8set r x.r s
  .ok ((s.setFlags x.z x.n x.h x.c).setCycles (cyclesOf r 1 3))

/-- `DAA` (R222): fN is not written. -/
def decimalAdjust (s : State) : Except Fault State :=
  let x := daaResult s.A s.fN s.fH s.fC
  .ok (((s.setA x.r).setFlags x.z x.n x.h x.c).setCycles 1)

/-- `CPL` (R223): fZ and fC are not written. -/
def complementA (s : State) : Except Fault State :=
  .ok ((((s.setA (~~~s.A)).setFN true).setFH true).setCycles 1)

/-- `SCF` (R224): fZ is not written. -/
def setCarry (s : State) : Except Fault State :=
  .ok ((((s.setFN false).setFH false).setFC true).setCycles 1)

/-- `CCF` (R225): fZ is not written. -/
def complementCarry (s : State) : Except Fault State :=
  .ok ((((s.setFN false).setFH false).setFC (!s.fC)).setCycles 1)

/-- `INC B` (41_alu8.md R218). -/
def execInc_B (s : State) : Out := outcome (inc8 .b s)
/-- `DEC B` (41_alu8.md R220). -/
def execDec_B (s : State) : Out := outcome (dec8 .b s)
/-- `INC C` (41_alu8.md R218). -/
def execInc_C (s : State) : Out := outcome (inc8 .c s)
/-- `DEC C` (41_alu8.md R220). -/
def execDec_C (s : State) : Out := outcome (dec8 .c s)
/-- `INC D` (41_alu8.md R218). -/
def execInc_D (s : State) : Out := outcome (inc8 .d s)
/-- `DEC D` (41_alu8.md R220). -/
def execDec_D (s : State) : Out := outcome (dec8 .d s)
/-- `INC E` (41_alu8.md R218). -/
def execInc_E (s : State) : Out := outcome (inc8 .e s)
/-- `DEC E` (41_alu8.md R220). -/
def execDec_E (s : State) : Out := outcome (dec8 .e s)
/-- `INC H` (41_alu8.md R218). -/
def execInc_H (s : State) : Out := outcome (inc8 .h s)
/-- `DEC H` (41_alu8.md R220). -/
def execDec_H (s : State) : Out := outcome (dec8 .h s)
/-- `DAA` (41_alu8.md R222). -/
def execDaa (s : State) : Out := outcome (decimalAdjust s)
/-- `INC L` (41_alu8.md R218). -/
def execInc_L (s : State) : Out := outcome (inc8 .l s)
/-- `DEC L` (41_alu8.md R220). -/
def execDec_L (s : State) : Out := outcome (dec8 .l s)
/-- `CPL` (41_alu8.md R223). -/
def execCpl (s : State) : Out := outcome (complementA s)
/-- `INC [HL]` (41_alu8.md R219). -/
def execInc_atHL (s : State) : Out := outcome (inc8 .atHL s)
/-- `DEC [HL]` (41_alu8.md R221). -/
def execDec_atHL (s : State) : Out := outcome (dec8 .atHL s)
/-- `SCF` (41_alu8.md R224). -/
def execScf (s : State) : Out := outcome (setCarry s)
/-- `INC A` (41_alu8.md R218). -/
def execInc_A (s : State) : Out := outcome (inc8 .a s)
/-- `DEC A` (41_alu8.md R220). -/
def execDec_A (s : State) : Out := outcome (dec8 .a s)
/-- `CCF` (41_alu8.md R225). -/
def execCcf (s : State) : Out := outcome (complementCarry s)
/-- `ADD A,B` (41_alu8.md R194). -/
def execAdd_A_B (s : State) : Out := outcome (alu8 .add .b s)
/-- `ADD A,C` (41_alu8.md R194). -/
def execAdd_A_C (s : State) : Out := outcome (alu8 .add .c s)
/-- `ADD A,D` (41_alu8.md R194). -/
def execAdd_A_D (s : State) : Out := outcome (alu8 .add .d s)
/-- `ADD A,E` (41_alu8.md R194). -/
def execAdd_A_E (s : State) : Out := outcome (alu8 .add .e s)
/-- `ADD A,H` (41_alu8.md R194). -/
def execAdd_A_H (s : State) : Out := outcome (alu8 .add .h s)
/-- `ADD A,L` (41_alu8.md R194). -/
def execAdd_A_L (s : State) : Out := outcome (alu8 .add .l s)
/-- `ADD A,[HL]` (41_alu8.md R195). -/
def execAdd_A_atHL (s : State) : Out := outcome (alu8 .add .atHL s)
/-- `ADD A,A` (41_alu8.md R194). -/
def execAdd_A_A (s : State) : Out := outcome (alu8 .add .a s)
/-- `ADC A,B` (41_alu8.md R197). -/
def execAdc_A_B (s : State) : Out := outcome (alu8 .adc .b s)
/-- `ADC A,C` (41_alu8.md R197). -/
def execAdc_A_C (s : State) : Out := outcome (alu8 .adc .c s)
/-- `ADC A,D` (41_alu8.md R197). -/
def execAdc_A_D (s : State) : Out := outcome (alu8 .adc .d s)
/-- `ADC A,E` (41_alu8.md R197). -/
def execAdc_A_E (s : State) : Out := outcome (alu8 .adc .e s)
/-- `ADC A,H` (41_alu8.md R197). -/
def execAdc_A_H (s : State) : Out := outcome (alu8 .adc .h s)
/-- `ADC A,L` (41_alu8.md R197). -/
def execAdc_A_L (s : State) : Out := outcome (alu8 .adc .l s)
/-- `ADC A,[HL]` (41_alu8.md R198). -/
def execAdc_A_atHL (s : State) : Out := outcome (alu8 .adc .atHL s)
/-- `ADC A,A` (41_alu8.md R197). -/
def execAdc_A_A (s : State) : Out := outcome (alu8 .adc .a s)
/-- `SUB A,B` (41_alu8.md R200). -/
def execSub_A_B (s : State) : Out := outcome (alu8 .sub .b s)
/-- `SUB A,C` (41_alu8.md R200). -/
def execSub_A_C (s : State) : Out := outcome (alu8 .sub .c s)
/-- `SUB A,D` (41_alu8.md R200). -/
def execSub_A_D (s : State) : Out := outcome (alu8 .sub .d s)
/-- `SUB A,E` (41_alu8.md R200). -/
def execSub_A_E (s : State) : Out := outcome (alu8 .sub .e s)
/-- `SUB A,H` (41_alu8.md R200). -/
def execSub_A_H (s : State) : Out := outcome (alu8 .sub .h s)
/-- `SUB A,L` (41_alu8.md R200). -/
def execSub_A_L (s : State) : Out := outcome (alu8 .sub .l s)
/-- `SUB A,[HL]` (41_alu8.md R201). -/
def execSub_A_atHL (s : State) : Out := outcome (alu8 .sub .atHL s)
/-- `SUB A,A` (41_alu8.md R200). -/
def execSub_A_A (s : State) : Out := outcome (alu8 .sub .a s)
/-- `SBC A,B` (41_alu8.md R203). -/
def execSbc_A_B (s : State) : Out := outcome (alu8 .sbc .b s)
/-- `SBC A,C` (41_alu8.md R203). -/
def execSbc_A_C (s : State) : Out := outcome (alu8 .sbc .c s)
/-- `SBC A,D` (41_alu8.md R203). -/
def execSbc_A_D (s : State) : Out := outcome (alu8 .sbc .d s)
/-- `SBC A,E` (41_alu8.md R203). -/
def execSbc_A_E (s : State) : Out := outcome (alu8 .sbc .e s)
/-- `SBC A,H` (41_alu8.md R203). -/
def execSbc_A_H (s : State) : Out := outcome (alu8 .sbc .h s)
/-- `SBC A,L` (41_alu8.md R203). -/
def execSbc_A_L (s : State) : Out := outcome (alu8 .sbc .l s)
/-- `SBC A,[HL]` (41_alu8.md R204). -/
def execSbc_A_atHL (s : State) : Out := outcome (alu8 .sbc .atHL s)
/-- `SBC A,A` (41_alu8.md R203). -/
def execSbc_A_A (s : State) : Out := outcome (alu8 .sbc .a s)
/-- `AND A,B` (41_alu8.md R206). -/
def execAnd_A_B (s : State) : Out := outcome (alu8 .and .b s)
/-- `AND A,C` (41_alu8.md R206). -/
def execAnd_A_C (s : State) : Out := outcome (alu8 .and .c s)
/-- `AND A,D` (41_alu8.md R206). -/
def execAnd_A_D (s : State) : Out := outcome (alu8 .and .d s)
/-- `AND A,E` (41_alu8.md R206). -/
def execAnd_A_E (s : State) : Out := outcome (alu8 .and .e s)
/-- `AND A,H` (41_alu8.md R206). -/
def execAnd_A_H (s : State) : Out := outcome (alu8 .and .h s)
/-- `AND A,L` (41_alu8.md R206). -/
def execAnd_A_L (s : State) : Out := outcome (alu8 .and .l s)
/-- `AND A,[HL]` (41_alu8.md R207). -/
def execAnd_A_atHL (s : State) : Out := outcome (alu8 .and .atHL s)
/-- `AND A,A` (41_alu8.md R206). -/
def execAnd_A_A (s : State) : Out := outcome (alu8 .and .a s)
/-- `XOR A,B` (41_alu8.md R209). -/
def execXor_A_B (s : State) : Out := outcome (alu8 .xor .b s)
/-- `XOR A,C` (41_alu8.md R209). -/
def execXor_A_C (s : State) : Out := outcome (alu8 .xor .c s)
/-- `XOR A,D` (41_alu8.md R209). -/
def execXor_A_D (s : State) : Out := outcome (alu8 .xor .d s)
/-- `XOR A,E` (41_alu8.md R209). -/
def execXor_A_E (s : State) : Out := outcome (alu8 .xor .e s)
/-- `XOR A,H` (41_alu8.md R209). -/
def execXor_A_H (s : State) : Out := outcome (alu8 .xor .h s)
/-- `XOR A,L` (41_alu8.md R209). -/
def execXor_A_L (s : State) : Out := outcome (alu8 .xor .l s)
/-- `XOR A,[HL]` (41_alu8.md R210). -/
def execXor_A_atHL (s : State) : Out := outcome (alu8 .xor .atHL s)
/-- `XOR A,A` (41_alu8.md R209). -/
def execXor_A_A (s : State) : Out := outcome (alu8 .xor .a s)
/-- `OR A,B` (41_alu8.md R212). -/
def execOr_A_B (s : State) : Out := outcome (alu8 .or .b s)
/-- `OR A,C` (41_alu8.md R212). -/
def execOr_A_C (s : State) : Out := outcome (alu8 .or .c s)
/-- `OR A,D` (41_alu8.md R212). -/
def execOr_A_D (s : State) : Out := outcome (alu8 .or .d s)
/-- `OR A,E` (41_alu8.md R212). -/
def execOr_A_E (s : State) : Out := outcome (alu8 .or .e s)
/-- `OR A,H` (41_alu8.md R212). -/
def execOr_A_H (s : State) : Out := outcome (alu8 .or .h s)
/-- `OR A,L` (41_alu8.md R212). -/
def execOr_A_L (s : State) : Out := outcome (alu8 .or .l s)
/-- `OR A,[HL]` (41_alu8.md R213). -/
def execOr_A_atHL (s : State) : Out := outcome (alu8 .or .atHL s)
/-- `OR A,A` (41_alu8.md R212). -/
def execOr_A_A (s : State) : Out := outcome (alu8 .or .a s)
/-- `CP A,B` (41_alu8.md R215). -/
def execCp_A_B (s : State) : Out := outcome (alu8 .cp .b s)
/-- `CP A,C` (41_alu8.md R215). -/
def execCp_A_C (s : State) : Out := outcome (alu8 .cp .c s)
/-- `CP A,D` (41_alu8.md R215). -/
def execCp_A_D (s : State) : Out := outcome (alu8 .cp .d s)
/-- `CP A,E` (41_alu8.md R215). -/
def execCp_A_E (s : State) : Out := outcome (alu8 .cp .e s)
/-- `CP A,H` (41_alu8.md R215). -/
def execCp_A_H (s : State) : Out := outcome (alu8 .cp .h s)
/-- `CP A,L` (41_alu8.md R215). -/
def execCp_A_L (s : State) : Out := outcome (alu8 .cp .l s)
/-- `CP A,[HL]` (41_alu8.md R216). -/
def execCp_A_atHL (s : State) : Out := outcome (alu8 .cp .atHL s)
/-- `CP A,A` (41_alu8.md R215). -/
def execCp_A_A (s : State) : Out := outcome (alu8 .cp .a s)
/-- `ADD A,n8` (41_alu8.md R196). -/
def execAdd_A_n8 (n : Byte) (s : State) : Out := outcome (aluImm .add n s)
/-- `ADC A,n8` (41_alu8.md R199). -/
def execAdc_A_n8 (n : Byte) (s : State) : Out := outcome (aluImm .adc n s)
/-- `SUB A,n8` (41_alu8.md R202). -/
def execSub_A_n8 (n : Byte) (s : State) : Out := outcome (aluImm .sub n s)
/-- `SBC A,n8` (41_alu8.md R205). -/
def execSbc_A_n8 (n : Byte) (s : State) : Out := outcome (aluImm .sbc n s)
/-- `AND A,n8` (41_alu8.md R208). -/
def execAnd_A_n8 (n : Byte) (s : State) : Out := outcome (aluImm .and n s)
/-- `XOR A,n8` (41_alu8.md R211). -/
def execXor_A_n8 (n : Byte) (s : State) : Out := outcome (aluImm .xor n s)
/-- `OR A,n8` (41_alu8.md R214). -/
def execOr_A_n8 (n : Byte) (s : State) : Out := outcome (aluImm .or n s)
/-- `CP A,n8` (41_alu8.md R217). -/
def execCp_A_n8 (n : Byte) (s : State) : Out := outcome (aluImm .cp n s)

end Sys2Proof.Machine
end

