-- ==== Sys2Proof/Machine/BitOps.lean ====
section
/-! DEFINITION. Rotates, shifts and bit operations (45_bitops.md), and the meaning of the prefix row (30_encoding.md R127,
R132). A meaning runs after the fetch: PC is the address after the instruction's bytes (log 9). -/

namespace Sys2Proof.Machine

/-- `RLCA`, `RRCA`, `RLA`, `RRA` (R310 to R313): the rotate of `cbrot` on A, with fZ cleared. -/
def rotateA (k : RotOp) (s : State) : Except Fault State :=
  let (r, c) := cbrot k s.A s.fC
  .ok (((s.setA r).setFlags false false false c).setCycles 1)

/-- The rotates, shifts and SWAP of the second page (R314 to R330). -/
def rotate8 (k : RotOp) (x : R8) (s : State) : Except Fault State := do
  let (v, s) ← r8get x s
  let (r, c) := cbrot k v s.fC
  let s ← r8set x r s
  .ok ((s.setFlags (r == 0) false false c).setCycles (cyclesOf x 2 4))

/-- `BIT b3,r8` and `BIT b3,[HL]` (R331, R332): fC is not written. -/
def testBit (b : Ix3) (x : R8) (s : State) : Except Fault State := do
  let (v, s) ← r8get x s
  .ok ((s.setFlags (!v.getLsbD (ix3Val b)) false true s.fC).setCycles (cyclesOf x 2 3))

/-- `RES b3,r8` and `RES b3,[HL]` (R333, R334): no flag is written. -/
def resetBit (b : Ix3) (x : R8) (s : State) : Except Fault State := do
  let (v, s) ← r8get x s
  let s ← r8set x (v &&& ~~~(1#8 <<< ix3Val b)) s
  .ok (s.setCycles (cyclesOf x 2 4))

/-- `SET b3,r8` and `SET b3,[HL]` (R335, R336): no flag is written. -/
def setBit (b : Ix3) (x : R8) (s : State) : Except Fault State := do
  let (v, s) ← r8get x s
  let s ← r8set x (v ||| (1#8 <<< ix3Val b)) s
  .ok (s.setCycles (cyclesOf x 2 4))

/-- The second-page instruction that `op2` names (30_encoding.md R132), for the prefix row (log 11). -/
def pageInstr (op2 : Byte) (s : State) : Except Fault State :=
  let x := r8Of (field op2 0 3)
  match field op2 6 2 with
  | 0 => rotate8 (rotOpOf (field op2 3 3)) x s
  | 1 => testBit (ix3Of (field op2 3 3)) x s
  | 2 => resetBit (ix3Of (field op2 3 3)) x s
  | _ => setBit (ix3Of (field op2 3 3)) x s

/-- `RLCA` (45_bitops.md R310). -/
def execRlca (s : State) : Out := outcome (rotateA .rlc s)
/-- `RRCA` (45_bitops.md R311). -/
def execRrca (s : State) : Out := outcome (rotateA .rrc s)
/-- `RLA` (45_bitops.md R312). -/
def execRla (s : State) : Out := outcome (rotateA .rl s)
/-- `RRA` (45_bitops.md R313). -/
def execRra (s : State) : Out := outcome (rotateA .rr s)
/-- `PREFIX CB` (30_encoding.md R127). -/
def execPrefix_CB (op2 : Byte) (s : State) : Out := outcome (pageInstr op2 s)
/-- `RLC B` (45_bitops.md R315). -/
def execRlc_B (s : State) : Out := outcome (rotate8 .rlc .b s)
/-- `RLC C` (45_bitops.md R315). -/
def execRlc_C (s : State) : Out := outcome (rotate8 .rlc .c s)
/-- `RLC D` (45_bitops.md R315). -/
def execRlc_D (s : State) : Out := outcome (rotate8 .rlc .d s)
/-- `RLC E` (45_bitops.md R315). -/
def execRlc_E (s : State) : Out := outcome (rotate8 .rlc .e s)
/-- `RLC H` (45_bitops.md R315). -/
def execRlc_H (s : State) : Out := outcome (rotate8 .rlc .h s)
/-- `RLC L` (45_bitops.md R315). -/
def execRlc_L (s : State) : Out := outcome (rotate8 .rlc .l s)
/-- `RLC [HL]` (45_bitops.md R316). -/
def execRlc_atHL (s : State) : Out := outcome (rotate8 .rlc .atHL s)
/-- `RLC A` (45_bitops.md R315). -/
def execRlc_A (s : State) : Out := outcome (rotate8 .rlc .a s)
/-- `RRC B` (45_bitops.md R317). -/
def execRrc_B (s : State) : Out := outcome (rotate8 .rrc .b s)
/-- `RRC C` (45_bitops.md R317). -/
def execRrc_C (s : State) : Out := outcome (rotate8 .rrc .c s)
/-- `RRC D` (45_bitops.md R317). -/
def execRrc_D (s : State) : Out := outcome (rotate8 .rrc .d s)
/-- `RRC E` (45_bitops.md R317). -/
def execRrc_E (s : State) : Out := outcome (rotate8 .rrc .e s)
/-- `RRC H` (45_bitops.md R317). -/
def execRrc_H (s : State) : Out := outcome (rotate8 .rrc .h s)
/-- `RRC L` (45_bitops.md R317). -/
def execRrc_L (s : State) : Out := outcome (rotate8 .rrc .l s)
/-- `RRC [HL]` (45_bitops.md R318). -/
def execRrc_atHL (s : State) : Out := outcome (rotate8 .rrc .atHL s)
/-- `RRC A` (45_bitops.md R317). -/
def execRrc_A (s : State) : Out := outcome (rotate8 .rrc .a s)
/-- `RL B` (45_bitops.md R319). -/
def execRl_B (s : State) : Out := outcome (rotate8 .rl .b s)
/-- `RL C` (45_bitops.md R319). -/
def execRl_C (s : State) : Out := outcome (rotate8 .rl .c s)
/-- `RL D` (45_bitops.md R319). -/
def execRl_D (s : State) : Out := outcome (rotate8 .rl .d s)
/-- `RL E` (45_bitops.md R319). -/
def execRl_E (s : State) : Out := outcome (rotate8 .rl .e s)
/-- `RL H` (45_bitops.md R319). -/
def execRl_H (s : State) : Out := outcome (rotate8 .rl .h s)
/-- `RL L` (45_bitops.md R319). -/
def execRl_L (s : State) : Out := outcome (rotate8 .rl .l s)
/-- `RL [HL]` (45_bitops.md R320). -/
def execRl_atHL (s : State) : Out := outcome (rotate8 .rl .atHL s)
/-- `RL A` (45_bitops.md R319). -/
def execRl_A (s : State) : Out := outcome (rotate8 .rl .a s)
/-- `RR B` (45_bitops.md R321). -/
def execRr_B (s : State) : Out := outcome (rotate8 .rr .b s)
/-- `RR C` (45_bitops.md R321). -/
def execRr_C (s : State) : Out := outcome (rotate8 .rr .c s)
/-- `RR D` (45_bitops.md R321). -/
def execRr_D (s : State) : Out := outcome (rotate8 .rr .d s)
/-- `RR E` (45_bitops.md R321). -/
def execRr_E (s : State) : Out := outcome (rotate8 .rr .e s)
/-- `RR H` (45_bitops.md R321). -/
def execRr_H (s : State) : Out := outcome (rotate8 .rr .h s)
/-- `RR L` (45_bitops.md R321). -/
def execRr_L (s : State) : Out := outcome (rotate8 .rr .l s)
/-- `RR [HL]` (45_bitops.md R322). -/
def execRr_atHL (s : State) : Out := outcome (rotate8 .rr .atHL s)
/-- `RR A` (45_bitops.md R321). -/
def execRr_A (s : State) : Out := outcome (rotate8 .rr .a s)
/-- `SLA B` (45_bitops.md R323). -/
def execSla_B (s : State) : Out := outcome (rotate8 .sla .b s)
/-- `SLA C` (45_bitops.md R323). -/
def execSla_C (s : State) : Out := outcome (rotate8 .sla .c s)
/-- `SLA D` (45_bitops.md R323). -/
def execSla_D (s : State) : Out := outcome (rotate8 .sla .d s)
/-- `SLA E` (45_bitops.md R323). -/
def execSla_E (s : State) : Out := outcome (rotate8 .sla .e s)
/-- `SLA H` (45_bitops.md R323). -/
def execSla_H (s : State) : Out := outcome (rotate8 .sla .h s)
/-- `SLA L` (45_bitops.md R323). -/
def execSla_L (s : State) : Out := outcome (rotate8 .sla .l s)
/-- `SLA [HL]` (45_bitops.md R324). -/
def execSla_atHL (s : State) : Out := outcome (rotate8 .sla .atHL s)
/-- `SLA A` (45_bitops.md R323). -/
def execSla_A (s : State) : Out := outcome (rotate8 .sla .a s)
/-- `SRA B` (45_bitops.md R325). -/
def execSra_B (s : State) : Out := outcome (rotate8 .sra .b s)
/-- `SRA C` (45_bitops.md R325). -/
def execSra_C (s : State) : Out := outcome (rotate8 .sra .c s)
/-- `SRA D` (45_bitops.md R325). -/
def execSra_D (s : State) : Out := outcome (rotate8 .sra .d s)
/-- `SRA E` (45_bitops.md R325). -/
def execSra_E (s : State) : Out := outcome (rotate8 .sra .e s)
/-- `SRA H` (45_bitops.md R325). -/
def execSra_H (s : State) : Out := outcome (rotate8 .sra .h s)
/-- `SRA L` (45_bitops.md R325). -/
def execSra_L (s : State) : Out := outcome (rotate8 .sra .l s)
/-- `SRA [HL]` (45_bitops.md R326). -/
def execSra_atHL (s : State) : Out := outcome (rotate8 .sra .atHL s)
/-- `SRA A` (45_bitops.md R325). -/
def execSra_A (s : State) : Out := outcome (rotate8 .sra .a s)
/-- `SWAP B` (45_bitops.md R327). -/
def execSwap_B (s : State) : Out := outcome (rotate8 .swap .b s)
/-- `SWAP C` (45_bitops.md R327). -/
def execSwap_C (s : State) : Out := outcome (rotate8 .swap .c s)
/-- `SWAP D` (45_bitops.md R327). -/
def execSwap_D (s : State) : Out := outcome (rotate8 .swap .d s)
/-- `SWAP E` (45_bitops.md R327). -/
def execSwap_E (s : State) : Out := outcome (rotate8 .swap .e s)
/-- `SWAP H` (45_bitops.md R327). -/
def execSwap_H (s : State) : Out := outcome (rotate8 .swap .h s)
/-- `SWAP L` (45_bitops.md R327). -/
def execSwap_L (s : State) : Out := outcome (rotate8 .swap .l s)
/-- `SWAP [HL]` (45_bitops.md R328). -/
def execSwap_atHL (s : State) : Out := outcome (rotate8 .swap .atHL s)
/-- `SWAP A` (45_bitops.md R327). -/
def execSwap_A (s : State) : Out := outcome (rotate8 .swap .a s)
/-- `SRL B` (45_bitops.md R329). -/
def execSrl_B (s : State) : Out := outcome (rotate8 .srl .b s)
/-- `SRL C` (45_bitops.md R329). -/
def execSrl_C (s : State) : Out := outcome (rotate8 .srl .c s)
/-- `SRL D` (45_bitops.md R329). -/
def execSrl_D (s : State) : Out := outcome (rotate8 .srl .d s)
/-- `SRL E` (45_bitops.md R329). -/
def execSrl_E (s : State) : Out := outcome (rotate8 .srl .e s)
/-- `SRL H` (45_bitops.md R329). -/
def execSrl_H (s : State) : Out := outcome (rotate8 .srl .h s)
/-- `SRL L` (45_bitops.md R329). -/
def execSrl_L (s : State) : Out := outcome (rotate8 .srl .l s)
/-- `SRL [HL]` (45_bitops.md R330). -/
def execSrl_atHL (s : State) : Out := outcome (rotate8 .srl .atHL s)
/-- `SRL A` (45_bitops.md R329). -/
def execSrl_A (s : State) : Out := outcome (rotate8 .srl .a s)
/-- `BIT 0,B` (45_bitops.md R331). -/
def execBit_0_B (s : State) : Out := outcome (testBit .i0 .b s)
/-- `BIT 0,C` (45_bitops.md R331). -/
def execBit_0_C (s : State) : Out := outcome (testBit .i0 .c s)
/-- `BIT 0,D` (45_bitops.md R331). -/
def execBit_0_D (s : State) : Out := outcome (testBit .i0 .d s)
/-- `BIT 0,E` (45_bitops.md R331). -/
def execBit_0_E (s : State) : Out := outcome (testBit .i0 .e s)
/-- `BIT 0,H` (45_bitops.md R331). -/
def execBit_0_H (s : State) : Out := outcome (testBit .i0 .h s)
/-- `BIT 0,L` (45_bitops.md R331). -/
def execBit_0_L (s : State) : Out := outcome (testBit .i0 .l s)
/-- `BIT 0,[HL]` (45_bitops.md R332). -/
def execBit_0_atHL (s : State) : Out := outcome (testBit .i0 .atHL s)
/-- `BIT 0,A` (45_bitops.md R331). -/
def execBit_0_A (s : State) : Out := outcome (testBit .i0 .a s)
/-- `BIT 1,B` (45_bitops.md R331). -/
def execBit_1_B (s : State) : Out := outcome (testBit .i1 .b s)
/-- `BIT 1,C` (45_bitops.md R331). -/
def execBit_1_C (s : State) : Out := outcome (testBit .i1 .c s)
/-- `BIT 1,D` (45_bitops.md R331). -/
def execBit_1_D (s : State) : Out := outcome (testBit .i1 .d s)
/-- `BIT 1,E` (45_bitops.md R331). -/
def execBit_1_E (s : State) : Out := outcome (testBit .i1 .e s)
/-- `BIT 1,H` (45_bitops.md R331). -/
def execBit_1_H (s : State) : Out := outcome (testBit .i1 .h s)
/-- `BIT 1,L` (45_bitops.md R331). -/
def execBit_1_L (s : State) : Out := outcome (testBit .i1 .l s)
/-- `BIT 1,[HL]` (45_bitops.md R332). -/
def execBit_1_atHL (s : State) : Out := outcome (testBit .i1 .atHL s)
/-- `BIT 1,A` (45_bitops.md R331). -/
def execBit_1_A (s : State) : Out := outcome (testBit .i1 .a s)
/-- `BIT 2,B` (45_bitops.md R331). -/
def execBit_2_B (s : State) : Out := outcome (testBit .i2 .b s)
/-- `BIT 2,C` (45_bitops.md R331). -/
def execBit_2_C (s : State) : Out := outcome (testBit .i2 .c s)
/-- `BIT 2,D` (45_bitops.md R331). -/
def execBit_2_D (s : State) : Out := outcome (testBit .i2 .d s)
/-- `BIT 2,E` (45_bitops.md R331). -/
def execBit_2_E (s : State) : Out := outcome (testBit .i2 .e s)
/-- `BIT 2,H` (45_bitops.md R331). -/
def execBit_2_H (s : State) : Out := outcome (testBit .i2 .h s)
/-- `BIT 2,L` (45_bitops.md R331). -/
def execBit_2_L (s : State) : Out := outcome (testBit .i2 .l s)
/-- `BIT 2,[HL]` (45_bitops.md R332). -/
def execBit_2_atHL (s : State) : Out := outcome (testBit .i2 .atHL s)
/-- `BIT 2,A` (45_bitops.md R331). -/
def execBit_2_A (s : State) : Out := outcome (testBit .i2 .a s)
/-- `BIT 3,B` (45_bitops.md R331). -/
def execBit_3_B (s : State) : Out := outcome (testBit .i3 .b s)
/-- `BIT 3,C` (45_bitops.md R331). -/
def execBit_3_C (s : State) : Out := outcome (testBit .i3 .c s)
/-- `BIT 3,D` (45_bitops.md R331). -/
def execBit_3_D (s : State) : Out := outcome (testBit .i3 .d s)
/-- `BIT 3,E` (45_bitops.md R331). -/
def execBit_3_E (s : State) : Out := outcome (testBit .i3 .e s)
/-- `BIT 3,H` (45_bitops.md R331). -/
def execBit_3_H (s : State) : Out := outcome (testBit .i3 .h s)
/-- `BIT 3,L` (45_bitops.md R331). -/
def execBit_3_L (s : State) : Out := outcome (testBit .i3 .l s)
/-- `BIT 3,[HL]` (45_bitops.md R332). -/
def execBit_3_atHL (s : State) : Out := outcome (testBit .i3 .atHL s)
/-- `BIT 3,A` (45_bitops.md R331). -/
def execBit_3_A (s : State) : Out := outcome (testBit .i3 .a s)
/-- `BIT 4,B` (45_bitops.md R331). -/
def execBit_4_B (s : State) : Out := outcome (testBit .i4 .b s)
/-- `BIT 4,C` (45_bitops.md R331). -/
def execBit_4_C (s : State) : Out := outcome (testBit .i4 .c s)
/-- `BIT 4,D` (45_bitops.md R331). -/
def execBit_4_D (s : State) : Out := outcome (testBit .i4 .d s)
/-- `BIT 4,E` (45_bitops.md R331). -/
def execBit_4_E (s : State) : Out := outcome (testBit .i4 .e s)
/-- `BIT 4,H` (45_bitops.md R331). -/
def execBit_4_H (s : State) : Out := outcome (testBit .i4 .h s)
/-- `BIT 4,L` (45_bitops.md R331). -/
def execBit_4_L (s : State) : Out := outcome (testBit .i4 .l s)
/-- `BIT 4,[HL]` (45_bitops.md R332). -/
def execBit_4_atHL (s : State) : Out := outcome (testBit .i4 .atHL s)
/-- `BIT 4,A` (45_bitops.md R331). -/
def execBit_4_A (s : State) : Out := outcome (testBit .i4 .a s)
/-- `BIT 5,B` (45_bitops.md R331). -/
def execBit_5_B (s : State) : Out := outcome (testBit .i5 .b s)
/-- `BIT 5,C` (45_bitops.md R331). -/
def execBit_5_C (s : State) : Out := outcome (testBit .i5 .c s)
/-- `BIT 5,D` (45_bitops.md R331). -/
def execBit_5_D (s : State) : Out := outcome (testBit .i5 .d s)
/-- `BIT 5,E` (45_bitops.md R331). -/
def execBit_5_E (s : State) : Out := outcome (testBit .i5 .e s)
/-- `BIT 5,H` (45_bitops.md R331). -/
def execBit_5_H (s : State) : Out := outcome (testBit .i5 .h s)
/-- `BIT 5,L` (45_bitops.md R331). -/
def execBit_5_L (s : State) : Out := outcome (testBit .i5 .l s)
/-- `BIT 5,[HL]` (45_bitops.md R332). -/
def execBit_5_atHL (s : State) : Out := outcome (testBit .i5 .atHL s)
/-- `BIT 5,A` (45_bitops.md R331). -/
def execBit_5_A (s : State) : Out := outcome (testBit .i5 .a s)
/-- `BIT 6,B` (45_bitops.md R331). -/
def execBit_6_B (s : State) : Out := outcome (testBit .i6 .b s)
/-- `BIT 6,C` (45_bitops.md R331). -/
def execBit_6_C (s : State) : Out := outcome (testBit .i6 .c s)
/-- `BIT 6,D` (45_bitops.md R331). -/
def execBit_6_D (s : State) : Out := outcome (testBit .i6 .d s)
/-- `BIT 6,E` (45_bitops.md R331). -/
def execBit_6_E (s : State) : Out := outcome (testBit .i6 .e s)
/-- `BIT 6,H` (45_bitops.md R331). -/
def execBit_6_H (s : State) : Out := outcome (testBit .i6 .h s)
/-- `BIT 6,L` (45_bitops.md R331). -/
def execBit_6_L (s : State) : Out := outcome (testBit .i6 .l s)
/-- `BIT 6,[HL]` (45_bitops.md R332). -/
def execBit_6_atHL (s : State) : Out := outcome (testBit .i6 .atHL s)
/-- `BIT 6,A` (45_bitops.md R331). -/
def execBit_6_A (s : State) : Out := outcome (testBit .i6 .a s)
/-- `BIT 7,B` (45_bitops.md R331). -/
def execBit_7_B (s : State) : Out := outcome (testBit .i7 .b s)
/-- `BIT 7,C` (45_bitops.md R331). -/
def execBit_7_C (s : State) : Out := outcome (testBit .i7 .c s)
/-- `BIT 7,D` (45_bitops.md R331). -/
def execBit_7_D (s : State) : Out := outcome (testBit .i7 .d s)
/-- `BIT 7,E` (45_bitops.md R331). -/
def execBit_7_E (s : State) : Out := outcome (testBit .i7 .e s)
/-- `BIT 7,H` (45_bitops.md R331). -/
def execBit_7_H (s : State) : Out := outcome (testBit .i7 .h s)
/-- `BIT 7,L` (45_bitops.md R331). -/
def execBit_7_L (s : State) : Out := outcome (testBit .i7 .l s)
/-- `BIT 7,[HL]` (45_bitops.md R332). -/
def execBit_7_atHL (s : State) : Out := outcome (testBit .i7 .atHL s)
/-- `BIT 7,A` (45_bitops.md R331). -/
def execBit_7_A (s : State) : Out := outcome (testBit .i7 .a s)
/-- `RES 0,B` (45_bitops.md R333). -/
def execRes_0_B (s : State) : Out := outcome (resetBit .i0 .b s)
/-- `RES 0,C` (45_bitops.md R333). -/
def execRes_0_C (s : State) : Out := outcome (resetBit .i0 .c s)
/-- `RES 0,D` (45_bitops.md R333). -/
def execRes_0_D (s : State) : Out := outcome (resetBit .i0 .d s)
/-- `RES 0,E` (45_bitops.md R333). -/
def execRes_0_E (s : State) : Out := outcome (resetBit .i0 .e s)
/-- `RES 0,H` (45_bitops.md R333). -/
def execRes_0_H (s : State) : Out := outcome (resetBit .i0 .h s)
/-- `RES 0,L` (45_bitops.md R333). -/
def execRes_0_L (s : State) : Out := outcome (resetBit .i0 .l s)
/-- `RES 0,[HL]` (45_bitops.md R334). -/
def execRes_0_atHL (s : State) : Out := outcome (resetBit .i0 .atHL s)
/-- `RES 0,A` (45_bitops.md R333). -/
def execRes_0_A (s : State) : Out := outcome (resetBit .i0 .a s)
/-- `RES 1,B` (45_bitops.md R333). -/
def execRes_1_B (s : State) : Out := outcome (resetBit .i1 .b s)
/-- `RES 1,C` (45_bitops.md R333). -/
def execRes_1_C (s : State) : Out := outcome (resetBit .i1 .c s)
/-- `RES 1,D` (45_bitops.md R333). -/
def execRes_1_D (s : State) : Out := outcome (resetBit .i1 .d s)
/-- `RES 1,E` (45_bitops.md R333). -/
def execRes_1_E (s : State) : Out := outcome (resetBit .i1 .e s)
/-- `RES 1,H` (45_bitops.md R333). -/
def execRes_1_H (s : State) : Out := outcome (resetBit .i1 .h s)
/-- `RES 1,L` (45_bitops.md R333). -/
def execRes_1_L (s : State) : Out := outcome (resetBit .i1 .l s)
/-- `RES 1,[HL]` (45_bitops.md R334). -/
def execRes_1_atHL (s : State) : Out := outcome (resetBit .i1 .atHL s)
/-- `RES 1,A` (45_bitops.md R333). -/
def execRes_1_A (s : State) : Out := outcome (resetBit .i1 .a s)
/-- `RES 2,B` (45_bitops.md R333). -/
def execRes_2_B (s : State) : Out := outcome (resetBit .i2 .b s)
/-- `RES 2,C` (45_bitops.md R333). -/
def execRes_2_C (s : State) : Out := outcome (resetBit .i2 .c s)
/-- `RES 2,D` (45_bitops.md R333). -/
def execRes_2_D (s : State) : Out := outcome (resetBit .i2 .d s)
/-- `RES 2,E` (45_bitops.md R333). -/
def execRes_2_E (s : State) : Out := outcome (resetBit .i2 .e s)
/-- `RES 2,H` (45_bitops.md R333). -/
def execRes_2_H (s : State) : Out := outcome (resetBit .i2 .h s)
/-- `RES 2,L` (45_bitops.md R333). -/
def execRes_2_L (s : State) : Out := outcome (resetBit .i2 .l s)
/-- `RES 2,[HL]` (45_bitops.md R334). -/
def execRes_2_atHL (s : State) : Out := outcome (resetBit .i2 .atHL s)
/-- `RES 2,A` (45_bitops.md R333). -/
def execRes_2_A (s : State) : Out := outcome (resetBit .i2 .a s)
/-- `RES 3,B` (45_bitops.md R333). -/
def execRes_3_B (s : State) : Out := outcome (resetBit .i3 .b s)
/-- `RES 3,C` (45_bitops.md R333). -/
def execRes_3_C (s : State) : Out := outcome (resetBit .i3 .c s)
/-- `RES 3,D` (45_bitops.md R333). -/
def execRes_3_D (s : State) : Out := outcome (resetBit .i3 .d s)
/-- `RES 3,E` (45_bitops.md R333). -/
def execRes_3_E (s : State) : Out := outcome (resetBit .i3 .e s)
/-- `RES 3,H` (45_bitops.md R333). -/
def execRes_3_H (s : State) : Out := outcome (resetBit .i3 .h s)
/-- `RES 3,L` (45_bitops.md R333). -/
def execRes_3_L (s : State) : Out := outcome (resetBit .i3 .l s)
/-- `RES 3,[HL]` (45_bitops.md R334). -/
def execRes_3_atHL (s : State) : Out := outcome (resetBit .i3 .atHL s)
/-- `RES 3,A` (45_bitops.md R333). -/
def execRes_3_A (s : State) : Out := outcome (resetBit .i3 .a s)
/-- `RES 4,B` (45_bitops.md R333). -/
def execRes_4_B (s : State) : Out := outcome (resetBit .i4 .b s)
/-- `RES 4,C` (45_bitops.md R333). -/
def execRes_4_C (s : State) : Out := outcome (resetBit .i4 .c s)
/-- `RES 4,D` (45_bitops.md R333). -/
def execRes_4_D (s : State) : Out := outcome (resetBit .i4 .d s)
/-- `RES 4,E` (45_bitops.md R333). -/
def execRes_4_E (s : State) : Out := outcome (resetBit .i4 .e s)
/-- `RES 4,H` (45_bitops.md R333). -/
def execRes_4_H (s : State) : Out := outcome (resetBit .i4 .h s)
/-- `RES 4,L` (45_bitops.md R333). -/
def execRes_4_L (s : State) : Out := outcome (resetBit .i4 .l s)
/-- `RES 4,[HL]` (45_bitops.md R334). -/
def execRes_4_atHL (s : State) : Out := outcome (resetBit .i4 .atHL s)
/-- `RES 4,A` (45_bitops.md R333). -/
def execRes_4_A (s : State) : Out := outcome (resetBit .i4 .a s)
/-- `RES 5,B` (45_bitops.md R333). -/
def execRes_5_B (s : State) : Out := outcome (resetBit .i5 .b s)
/-- `RES 5,C` (45_bitops.md R333). -/
def execRes_5_C (s : State) : Out := outcome (resetBit .i5 .c s)
/-- `RES 5,D` (45_bitops.md R333). -/
def execRes_5_D (s : State) : Out := outcome (resetBit .i5 .d s)
/-- `RES 5,E` (45_bitops.md R333). -/
def execRes_5_E (s : State) : Out := outcome (resetBit .i5 .e s)
/-- `RES 5,H` (45_bitops.md R333). -/
def execRes_5_H (s : State) : Out := outcome (resetBit .i5 .h s)
/-- `RES 5,L` (45_bitops.md R333). -/
def execRes_5_L (s : State) : Out := outcome (resetBit .i5 .l s)
/-- `RES 5,[HL]` (45_bitops.md R334). -/
def execRes_5_atHL (s : State) : Out := outcome (resetBit .i5 .atHL s)
/-- `RES 5,A` (45_bitops.md R333). -/
def execRes_5_A (s : State) : Out := outcome (resetBit .i5 .a s)
/-- `RES 6,B` (45_bitops.md R333). -/
def execRes_6_B (s : State) : Out := outcome (resetBit .i6 .b s)
/-- `RES 6,C` (45_bitops.md R333). -/
def execRes_6_C (s : State) : Out := outcome (resetBit .i6 .c s)
/-- `RES 6,D` (45_bitops.md R333). -/
def execRes_6_D (s : State) : Out := outcome (resetBit .i6 .d s)
/-- `RES 6,E` (45_bitops.md R333). -/
def execRes_6_E (s : State) : Out := outcome (resetBit .i6 .e s)
/-- `RES 6,H` (45_bitops.md R333). -/
def execRes_6_H (s : State) : Out := outcome (resetBit .i6 .h s)
/-- `RES 6,L` (45_bitops.md R333). -/
def execRes_6_L (s : State) : Out := outcome (resetBit .i6 .l s)
/-- `RES 6,[HL]` (45_bitops.md R334). -/
def execRes_6_atHL (s : State) : Out := outcome (resetBit .i6 .atHL s)
/-- `RES 6,A` (45_bitops.md R333). -/
def execRes_6_A (s : State) : Out := outcome (resetBit .i6 .a s)
/-- `RES 7,B` (45_bitops.md R333). -/
def execRes_7_B (s : State) : Out := outcome (resetBit .i7 .b s)
/-- `RES 7,C` (45_bitops.md R333). -/
def execRes_7_C (s : State) : Out := outcome (resetBit .i7 .c s)
/-- `RES 7,D` (45_bitops.md R333). -/
def execRes_7_D (s : State) : Out := outcome (resetBit .i7 .d s)
/-- `RES 7,E` (45_bitops.md R333). -/
def execRes_7_E (s : State) : Out := outcome (resetBit .i7 .e s)
/-- `RES 7,H` (45_bitops.md R333). -/
def execRes_7_H (s : State) : Out := outcome (resetBit .i7 .h s)
/-- `RES 7,L` (45_bitops.md R333). -/
def execRes_7_L (s : State) : Out := outcome (resetBit .i7 .l s)
/-- `RES 7,[HL]` (45_bitops.md R334). -/
def execRes_7_atHL (s : State) : Out := outcome (resetBit .i7 .atHL s)
/-- `RES 7,A` (45_bitops.md R333). -/
def execRes_7_A (s : State) : Out := outcome (resetBit .i7 .a s)
/-- `SET 0,B` (45_bitops.md R335). -/
def execSet_0_B (s : State) : Out := outcome (setBit .i0 .b s)
/-- `SET 0,C` (45_bitops.md R335). -/
def execSet_0_C (s : State) : Out := outcome (setBit .i0 .c s)
/-- `SET 0,D` (45_bitops.md R335). -/
def execSet_0_D (s : State) : Out := outcome (setBit .i0 .d s)
/-- `SET 0,E` (45_bitops.md R335). -/
def execSet_0_E (s : State) : Out := outcome (setBit .i0 .e s)
/-- `SET 0,H` (45_bitops.md R335). -/
def execSet_0_H (s : State) : Out := outcome (setBit .i0 .h s)
/-- `SET 0,L` (45_bitops.md R335). -/
def execSet_0_L (s : State) : Out := outcome (setBit .i0 .l s)
/-- `SET 0,[HL]` (45_bitops.md R336). -/
def execSet_0_atHL (s : State) : Out := outcome (setBit .i0 .atHL s)
/-- `SET 0,A` (45_bitops.md R335). -/
def execSet_0_A (s : State) : Out := outcome (setBit .i0 .a s)
/-- `SET 1,B` (45_bitops.md R335). -/
def execSet_1_B (s : State) : Out := outcome (setBit .i1 .b s)
/-- `SET 1,C` (45_bitops.md R335). -/
def execSet_1_C (s : State) : Out := outcome (setBit .i1 .c s)
/-- `SET 1,D` (45_bitops.md R335). -/
def execSet_1_D (s : State) : Out := outcome (setBit .i1 .d s)
/-- `SET 1,E` (45_bitops.md R335). -/
def execSet_1_E (s : State) : Out := outcome (setBit .i1 .e s)
/-- `SET 1,H` (45_bitops.md R335). -/
def execSet_1_H (s : State) : Out := outcome (setBit .i1 .h s)
/-- `SET 1,L` (45_bitops.md R335). -/
def execSet_1_L (s : State) : Out := outcome (setBit .i1 .l s)
/-- `SET 1,[HL]` (45_bitops.md R336). -/
def execSet_1_atHL (s : State) : Out := outcome (setBit .i1 .atHL s)
/-- `SET 1,A` (45_bitops.md R335). -/
def execSet_1_A (s : State) : Out := outcome (setBit .i1 .a s)
/-- `SET 2,B` (45_bitops.md R335). -/
def execSet_2_B (s : State) : Out := outcome (setBit .i2 .b s)
/-- `SET 2,C` (45_bitops.md R335). -/
def execSet_2_C (s : State) : Out := outcome (setBit .i2 .c s)
/-- `SET 2,D` (45_bitops.md R335). -/
def execSet_2_D (s : State) : Out := outcome (setBit .i2 .d s)
/-- `SET 2,E` (45_bitops.md R335). -/
def execSet_2_E (s : State) : Out := outcome (setBit .i2 .e s)
/-- `SET 2,H` (45_bitops.md R335). -/
def execSet_2_H (s : State) : Out := outcome (setBit .i2 .h s)
/-- `SET 2,L` (45_bitops.md R335). -/
def execSet_2_L (s : State) : Out := outcome (setBit .i2 .l s)
/-- `SET 2,[HL]` (45_bitops.md R336). -/
def execSet_2_atHL (s : State) : Out := outcome (setBit .i2 .atHL s)
/-- `SET 2,A` (45_bitops.md R335). -/
def execSet_2_A (s : State) : Out := outcome (setBit .i2 .a s)
/-- `SET 3,B` (45_bitops.md R335). -/
def execSet_3_B (s : State) : Out := outcome (setBit .i3 .b s)
/-- `SET 3,C` (45_bitops.md R335). -/
def execSet_3_C (s : State) : Out := outcome (setBit .i3 .c s)
/-- `SET 3,D` (45_bitops.md R335). -/
def execSet_3_D (s : State) : Out := outcome (setBit .i3 .d s)
/-- `SET 3,E` (45_bitops.md R335). -/
def execSet_3_E (s : State) : Out := outcome (setBit .i3 .e s)
/-- `SET 3,H` (45_bitops.md R335). -/
def execSet_3_H (s : State) : Out := outcome (setBit .i3 .h s)
/-- `SET 3,L` (45_bitops.md R335). -/
def execSet_3_L (s : State) : Out := outcome (setBit .i3 .l s)
/-- `SET 3,[HL]` (45_bitops.md R336). -/
def execSet_3_atHL (s : State) : Out := outcome (setBit .i3 .atHL s)
/-- `SET 3,A` (45_bitops.md R335). -/
def execSet_3_A (s : State) : Out := outcome (setBit .i3 .a s)
/-- `SET 4,B` (45_bitops.md R335). -/
def execSet_4_B (s : State) : Out := outcome (setBit .i4 .b s)
/-- `SET 4,C` (45_bitops.md R335). -/
def execSet_4_C (s : State) : Out := outcome (setBit .i4 .c s)
/-- `SET 4,D` (45_bitops.md R335). -/
def execSet_4_D (s : State) : Out := outcome (setBit .i4 .d s)
/-- `SET 4,E` (45_bitops.md R335). -/
def execSet_4_E (s : State) : Out := outcome (setBit .i4 .e s)
/-- `SET 4,H` (45_bitops.md R335). -/
def execSet_4_H (s : State) : Out := outcome (setBit .i4 .h s)
/-- `SET 4,L` (45_bitops.md R335). -/
def execSet_4_L (s : State) : Out := outcome (setBit .i4 .l s)
/-- `SET 4,[HL]` (45_bitops.md R336). -/
def execSet_4_atHL (s : State) : Out := outcome (setBit .i4 .atHL s)
/-- `SET 4,A` (45_bitops.md R335). -/
def execSet_4_A (s : State) : Out := outcome (setBit .i4 .a s)
/-- `SET 5,B` (45_bitops.md R335). -/
def execSet_5_B (s : State) : Out := outcome (setBit .i5 .b s)
/-- `SET 5,C` (45_bitops.md R335). -/
def execSet_5_C (s : State) : Out := outcome (setBit .i5 .c s)
/-- `SET 5,D` (45_bitops.md R335). -/
def execSet_5_D (s : State) : Out := outcome (setBit .i5 .d s)
/-- `SET 5,E` (45_bitops.md R335). -/
def execSet_5_E (s : State) : Out := outcome (setBit .i5 .e s)
/-- `SET 5,H` (45_bitops.md R335). -/
def execSet_5_H (s : State) : Out := outcome (setBit .i5 .h s)
/-- `SET 5,L` (45_bitops.md R335). -/
def execSet_5_L (s : State) : Out := outcome (setBit .i5 .l s)
/-- `SET 5,[HL]` (45_bitops.md R336). -/
def execSet_5_atHL (s : State) : Out := outcome (setBit .i5 .atHL s)
/-- `SET 5,A` (45_bitops.md R335). -/
def execSet_5_A (s : State) : Out := outcome (setBit .i5 .a s)
/-- `SET 6,B` (45_bitops.md R335). -/
def execSet_6_B (s : State) : Out := outcome (setBit .i6 .b s)
/-- `SET 6,C` (45_bitops.md R335). -/
def execSet_6_C (s : State) : Out := outcome (setBit .i6 .c s)
/-- `SET 6,D` (45_bitops.md R335). -/
def execSet_6_D (s : State) : Out := outcome (setBit .i6 .d s)
/-- `SET 6,E` (45_bitops.md R335). -/
def execSet_6_E (s : State) : Out := outcome (setBit .i6 .e s)
/-- `SET 6,H` (45_bitops.md R335). -/
def execSet_6_H (s : State) : Out := outcome (setBit .i6 .h s)
/-- `SET 6,L` (45_bitops.md R335). -/
def execSet_6_L (s : State) : Out := outcome (setBit .i6 .l s)
/-- `SET 6,[HL]` (45_bitops.md R336). -/
def execSet_6_atHL (s : State) : Out := outcome (setBit .i6 .atHL s)
/-- `SET 6,A` (45_bitops.md R335). -/
def execSet_6_A (s : State) : Out := outcome (setBit .i6 .a s)
/-- `SET 7,B` (45_bitops.md R335). -/
def execSet_7_B (s : State) : Out := outcome (setBit .i7 .b s)
/-- `SET 7,C` (45_bitops.md R335). -/
def execSet_7_C (s : State) : Out := outcome (setBit .i7 .c s)
/-- `SET 7,D` (45_bitops.md R335). -/
def execSet_7_D (s : State) : Out := outcome (setBit .i7 .d s)
/-- `SET 7,E` (45_bitops.md R335). -/
def execSet_7_E (s : State) : Out := outcome (setBit .i7 .e s)
/-- `SET 7,H` (45_bitops.md R335). -/
def execSet_7_H (s : State) : Out := outcome (setBit .i7 .h s)
/-- `SET 7,L` (45_bitops.md R335). -/
def execSet_7_L (s : State) : Out := outcome (setBit .i7 .l s)
/-- `SET 7,[HL]` (45_bitops.md R336). -/
def execSet_7_atHL (s : State) : Out := outcome (setBit .i7 .atHL s)
/-- `SET 7,A` (45_bitops.md R335). -/
def execSet_7_A (s : State) : Out := outcome (setBit .i7 .a s)

end Sys2Proof.Machine
end

