-- ==== Sys2Proof/Machine/Control.lean ====
section
/-! DEFINITION. Control instructions and the illegal opcodes (46_control.md). A meaning runs after the fetch: PC is the
address after the instruction's bytes (log 9). -/

namespace Sys2Proof.Machine

/-- `NOP` (R350). -/
def noOperation (s : State) : Except Fault State := .ok (s.setCycles 1)

/-- `HALT` (R351). -/
def enterHalt (s : State) : Except Fault State := .ok ((s.setHalted true).setCycles 1)

/-- `STOP` (R352): the second byte, `_n`, is fetched and ignored; the state entered is HALT's. -/
def enterStop (_n : Byte) (s : State) : Except Fault State := .ok ((s.setHalted true).setCycles 1)

/-- `DI` (R353). -/
def disableInterrupts (s : State) : Except Fault State := .ok (((s.setIME false).setEiDelay false).setCycles 1)

/-- `EI` (R354): IME is set at the end of the next instruction's step. -/
def enableInterrupts (s : State) : Except Fault State := .ok ((s.setEiDelay true).setCycles 1)

/-- The illegal opcodes (R355): the step fails and commits nothing. -/
def illegalOpcode (op : Byte) (_s : State) : Out := .fault (.illegalOpcode op)

/-- `NOP` (46_control.md R350). -/
def execNop (s : State) : Out := outcome (noOperation s)
/-- `STOP n8` (46_control.md R352). -/
def execStop_n8 (n : Byte) (s : State) : Out := outcome (enterStop n s)
/-- `HALT` (46_control.md R351). -/
def execHalt (s : State) : Out := outcome (enterHalt s)
/-- `ILLEGAL 0xD3` (46_control.md R355). -/
def execIllegal_D3 (s : State) : Out := illegalOpcode 0xD3 s
/-- `ILLEGAL 0xDB` (46_control.md R355). -/
def execIllegal_DB (s : State) : Out := illegalOpcode 0xDB s
/-- `ILLEGAL 0xDD` (46_control.md R355). -/
def execIllegal_DD (s : State) : Out := illegalOpcode 0xDD s
/-- `ILLEGAL 0xE3` (46_control.md R355). -/
def execIllegal_E3 (s : State) : Out := illegalOpcode 0xE3 s
/-- `ILLEGAL 0xE4` (46_control.md R355). -/
def execIllegal_E4 (s : State) : Out := illegalOpcode 0xE4 s
/-- `ILLEGAL 0xEB` (46_control.md R355). -/
def execIllegal_EB (s : State) : Out := illegalOpcode 0xEB s
/-- `ILLEGAL 0xEC` (46_control.md R355). -/
def execIllegal_EC (s : State) : Out := illegalOpcode 0xEC s
/-- `ILLEGAL 0xED` (46_control.md R355). -/
def execIllegal_ED (s : State) : Out := illegalOpcode 0xED s
/-- `DI` (46_control.md R353). -/
def execDi (s : State) : Out := outcome (disableInterrupts s)
/-- `ILLEGAL 0xF4` (46_control.md R355). -/
def execIllegal_F4 (s : State) : Out := illegalOpcode 0xF4 s
/-- `EI` (46_control.md R354). -/
def execEi (s : State) : Out := outcome (enableInterrupts s)
/-- `ILLEGAL 0xFC` (46_control.md R355). -/
def execIllegal_FC (s : State) : Out := illegalOpcode 0xFC s
/-- `ILLEGAL 0xFD` (46_control.md R355). -/
def execIllegal_FD (s : State) : Out := illegalOpcode 0xFD s

end Sys2Proof.Machine
end

