-- ==== Sys2Proof/Machine/Jumps.lean ====
section
/-! DEFINITION. Jumps, calls and returns (43_jumps.md). A meaning runs after the fetch: PC is the address after the
instruction's bytes (log 9), which is the base of a relative jump and the return address of a call. -/

namespace Sys2Proof.Machine

/-- `JP n16` (R260). -/
def jump (n : Word) (s : State) : Except Fault State := .ok ((s.setPC n).setCycles 4)

/-- `JP cc,n16` (R261). -/
def jumpIf (cc : Cond) (n : Word) (s : State) : Except Fault State :=
  if s.holds cc then .ok ((s.setPC n).setCycles 4) else .ok (s.setCycles 3)

/-- `JP HL` (R262). -/
def jumpHL (s : State) : Except Fault State := .ok ((s.setPC s.hl).setCycles 1)

/-- `JR e8` (R263). -/
def jumpRel (e : Byte) (s : State) : Except Fault State := .ok ((s.setPC (s.pc + sext16 e)).setCycles 3)

/-- `JR cc,e8` (R264). -/
def jumpRelIf (cc : Cond) (e : Byte) (s : State) : Except Fault State :=
  if s.holds cc then .ok ((s.setPC (s.pc + sext16 e)).setCycles 3) else .ok (s.setCycles 2)

/-- `CALL n16` (R265). -/
def call (n : Word) (s : State) : Except Fault State := do
  let s ← push16 s.pc s
  .ok ((s.setPC n).setCycles 6)

/-- `CALL cc,n16` (R266). -/
def callIf (cc : Cond) (n : Word) (s : State) : Except Fault State :=
  if s.holds cc then do
    let s ← push16 s.pc s
    .ok ((s.setPC n).setCycles 6)
  else .ok (s.setCycles 3)

/-- `RET` (R267). -/
def ret (s : State) : Except Fault State := do
  let (t, s) ← pop16 s
  .ok ((s.setPC t).setCycles 4)

/-- `RET cc` (R268). -/
def retIf (cc : Cond) (s : State) : Except Fault State :=
  if s.holds cc then do
    let (t, s) ← pop16 s
    .ok ((s.setPC t).setCycles 5)
  else .ok (s.setCycles 2)

/-- `RETI` (R269): the return from an interrupt, IME set at once. -/
def retInterrupt (s : State) : Except Fault State := do
  let s ← returnFromInterrupt s
  .ok (s.setCycles 4)

/-- The target of `RST tgt3`: `zext_16(tgt3 * 8)` (30_encoding.md R125). -/
def rstTarget (t : Ix3) : Word := zext16 (BitVec.ofNat 8 (ix3Val t * 8))

/-- `RST tgt3` (R270). -/
def restart (t : Ix3) (s : State) : Except Fault State := do
  let s ← push16 s.pc s
  .ok ((s.setPC (rstTarget t)).setCycles 4)

/-- `JR e8` (43_jumps.md R263). -/
def execJr_e8 (e : Byte) (s : State) : Out := outcome (jumpRel e s)
/-- `JR NZ,e8` (43_jumps.md R264). -/
def execJr_NZ_e8 (e : Byte) (s : State) : Out := outcome (jumpRelIf .nz e s)
/-- `JR Z,e8` (43_jumps.md R264). -/
def execJr_Z_e8 (e : Byte) (s : State) : Out := outcome (jumpRelIf .z e s)
/-- `JR NC,e8` (43_jumps.md R264). -/
def execJr_NC_e8 (e : Byte) (s : State) : Out := outcome (jumpRelIf .nc e s)
/-- `JR C,e8` (43_jumps.md R264). -/
def execJr_C_e8 (e : Byte) (s : State) : Out := outcome (jumpRelIf .c e s)
/-- `RET NZ` (43_jumps.md R268). -/
def execRet_NZ (s : State) : Out := outcome (retIf .nz s)
/-- `JP NZ,n16` (43_jumps.md R261). -/
def execJp_NZ_n16 (n : Word) (s : State) : Out := outcome (jumpIf .nz n s)
/-- `JP n16` (43_jumps.md R260). -/
def execJp_n16 (n : Word) (s : State) : Out := outcome (jump n s)
/-- `CALL NZ,n16` (43_jumps.md R266). -/
def execCall_NZ_n16 (n : Word) (s : State) : Out := outcome (callIf .nz n s)
/-- `RST 0x00` (43_jumps.md R270). -/
def execRst_00 (s : State) : Out := outcome (restart .i0 s)
/-- `RET Z` (43_jumps.md R268). -/
def execRet_Z (s : State) : Out := outcome (retIf .z s)
/-- `RET` (43_jumps.md R267). -/
def execRet (s : State) : Out := outcome (ret s)
/-- `JP Z,n16` (43_jumps.md R261). -/
def execJp_Z_n16 (n : Word) (s : State) : Out := outcome (jumpIf .z n s)
/-- `CALL Z,n16` (43_jumps.md R266). -/
def execCall_Z_n16 (n : Word) (s : State) : Out := outcome (callIf .z n s)
/-- `CALL n16` (43_jumps.md R265). -/
def execCall_n16 (n : Word) (s : State) : Out := outcome (call n s)
/-- `RST 0x08` (43_jumps.md R270). -/
def execRst_08 (s : State) : Out := outcome (restart .i1 s)
/-- `RET NC` (43_jumps.md R268). -/
def execRet_NC (s : State) : Out := outcome (retIf .nc s)
/-- `JP NC,n16` (43_jumps.md R261). -/
def execJp_NC_n16 (n : Word) (s : State) : Out := outcome (jumpIf .nc n s)
/-- `CALL NC,n16` (43_jumps.md R266). -/
def execCall_NC_n16 (n : Word) (s : State) : Out := outcome (callIf .nc n s)
/-- `RST 0x10` (43_jumps.md R270). -/
def execRst_10 (s : State) : Out := outcome (restart .i2 s)
/-- `RET C` (43_jumps.md R268). -/
def execRet_C (s : State) : Out := outcome (retIf .c s)
/-- `RETI` (43_jumps.md R269). -/
def execReti (s : State) : Out := outcome (retInterrupt s)
/-- `JP C,n16` (43_jumps.md R261). -/
def execJp_C_n16 (n : Word) (s : State) : Out := outcome (jumpIf .c n s)
/-- `CALL C,n16` (43_jumps.md R266). -/
def execCall_C_n16 (n : Word) (s : State) : Out := outcome (callIf .c n s)
/-- `RST 0x18` (43_jumps.md R270). -/
def execRst_18 (s : State) : Out := outcome (restart .i3 s)
/-- `RST 0x20` (43_jumps.md R270). -/
def execRst_20 (s : State) : Out := outcome (restart .i4 s)
/-- `JP HL` (43_jumps.md R262). -/
def execJp_HL (s : State) : Out := outcome (jumpHL s)
/-- `RST 0x28` (43_jumps.md R270). -/
def execRst_28 (s : State) : Out := outcome (restart .i5 s)
/-- `RST 0x30` (43_jumps.md R270). -/
def execRst_30 (s : State) : Out := outcome (restart .i6 s)
/-- `RST 0x38` (43_jumps.md R270). -/
def execRst_38 (s : State) : Out := outcome (restart .i7 s)

end Sys2Proof.Machine
end

