-- ==== Sys2Proof/Machine/Loads.lean ====
section
/-! DEFINITION. 8-bit and 16-bit loads (40_loads.md). A meaning runs after the fetch: PC is the address after the
instruction's bytes (log 9). -/

namespace Sys2Proof.Machine

/-- `LD r8,r8`, `LD r8,[HL]` and `LD [HL],r8` (R150, R151, R152): read the source, then write the destination. -/
def load8 (dst src : R8) (s : State) : Except Fault State := do
  let (v, s) ← r8get src s
  let s ← r8set dst v s
  .ok (s.setCycles (max (cyclesOf dst 1 2) (cyclesOf src 1 2)))

/-- `LD r8,n8` and `LD [HL],n8` (R153, R154). -/
def loadImm (dst : R8) (n : Byte) (s : State) : Except Fault State := do
  let s ← r8set dst n s
  .ok (s.setCycles (cyclesOf dst 2 3))

/-- `LD [r16mem],A` (R155). -/
def storeMem (rp : R16Mem) (s : State) : Except Fault State := do
  let (addr, s) := r16mem rp s
  let s ← busWrite addr s.A s
  .ok (s.setCycles 2)

/-- `LD A,[r16mem]` (R156). -/
def loadMem (rp : R16Mem) (s : State) : Except Fault State := do
  let (addr, s) := r16mem rp s
  let (v, s) ← busRead addr s
  .ok ((s.setA v).setCycles 2)

/-- `LD [n16],A` (R157). -/
def storeDirect (n : Word) (s : State) : Except Fault State := do
  let s ← busWrite n s.A s
  .ok (s.setCycles 4)

/-- `LD A,[n16]` (R158). -/
def loadDirect (n : Word) (s : State) : Except Fault State := do
  let (v, s) ← busRead n s
  .ok ((s.setA v).setCycles 4)

/-- `LDH [n8],A` (R159). -/
def storeHigh (n : Byte) (s : State) : Except Fault State := do
  let s ← busWrite (ldhAddr n) s.A s
  .ok (s.setCycles 3)

/-- `LDH A,[n8]` (R160). -/
def loadHigh (n : Byte) (s : State) : Except Fault State := do
  let (v, s) ← busRead (ldhAddr n) s
  .ok ((s.setA v).setCycles 3)

/-- `LDH [C],A` (R161). -/
def storeHighC (s : State) : Except Fault State := do
  let s ← busWrite (ldhAddr s.C) s.A s
  .ok (s.setCycles 2)

/-- `LDH A,[C]` (R162). -/
def loadHighC (s : State) : Except Fault State := do
  let (v, s) ← busRead (ldhAddr s.C) s
  .ok ((s.setA v).setCycles 2)

/-- `LD r16,n16` (R163). -/
def loadR16 (rp : R16) (n : Word) (s : State) : Except Fault State := .ok ((r16set rp n s).setCycles 3)

/-- `LD BC,n16` (40_loads.md R163). -/
def execLd_BC_n16 (n : Word) (s : State) : Out := outcome (loadR16 .bc n s)
/-- `LD [BC],A` (40_loads.md R155). -/
def execLd_atBC_A (s : State) : Out := outcome (storeMem .bc s)
/-- `LD B,n8` (40_loads.md R153). -/
def execLd_B_n8 (n : Byte) (s : State) : Out := outcome (loadImm .b n s)
/-- `LD A,[BC]` (40_loads.md R156). -/
def execLd_A_atBC (s : State) : Out := outcome (loadMem .bc s)
/-- `LD C,n8` (40_loads.md R153). -/
def execLd_C_n8 (n : Byte) (s : State) : Out := outcome (loadImm .c n s)
/-- `LD DE,n16` (40_loads.md R163). -/
def execLd_DE_n16 (n : Word) (s : State) : Out := outcome (loadR16 .de n s)
/-- `LD [DE],A` (40_loads.md R155). -/
def execLd_atDE_A (s : State) : Out := outcome (storeMem .de s)
/-- `LD D,n8` (40_loads.md R153). -/
def execLd_D_n8 (n : Byte) (s : State) : Out := outcome (loadImm .d n s)
/-- `LD A,[DE]` (40_loads.md R156). -/
def execLd_A_atDE (s : State) : Out := outcome (loadMem .de s)
/-- `LD E,n8` (40_loads.md R153). -/
def execLd_E_n8 (n : Byte) (s : State) : Out := outcome (loadImm .e n s)
/-- `LD HL,n16` (40_loads.md R163). -/
def execLd_HL_n16 (n : Word) (s : State) : Out := outcome (loadR16 .hl n s)
/-- `LD [HL+],A` (40_loads.md R155). -/
def execLd_atHLinc_A (s : State) : Out := outcome (storeMem .hlInc s)
/-- `LD H,n8` (40_loads.md R153). -/
def execLd_H_n8 (n : Byte) (s : State) : Out := outcome (loadImm .h n s)
/-- `LD A,[HL+]` (40_loads.md R156). -/
def execLd_A_atHLinc (s : State) : Out := outcome (loadMem .hlInc s)
/-- `LD L,n8` (40_loads.md R153). -/
def execLd_L_n8 (n : Byte) (s : State) : Out := outcome (loadImm .l n s)
/-- `LD SP,n16` (40_loads.md R163). -/
def execLd_SP_n16 (n : Word) (s : State) : Out := outcome (loadR16 .sp n s)
/-- `LD [HL-],A` (40_loads.md R155). -/
def execLd_atHLdec_A (s : State) : Out := outcome (storeMem .hlDec s)
/-- `LD [HL],n8` (40_loads.md R154). -/
def execLd_atHL_n8 (n : Byte) (s : State) : Out := outcome (loadImm .atHL n s)
/-- `LD A,[HL-]` (40_loads.md R156). -/
def execLd_A_atHLdec (s : State) : Out := outcome (loadMem .hlDec s)
/-- `LD A,n8` (40_loads.md R153). -/
def execLd_A_n8 (n : Byte) (s : State) : Out := outcome (loadImm .a n s)
/-- `LD B,B` (40_loads.md R150). -/
def execLd_B_B (s : State) : Out := outcome (load8 .b .b s)
/-- `LD B,C` (40_loads.md R150). -/
def execLd_B_C (s : State) : Out := outcome (load8 .b .c s)
/-- `LD B,D` (40_loads.md R150). -/
def execLd_B_D (s : State) : Out := outcome (load8 .b .d s)
/-- `LD B,E` (40_loads.md R150). -/
def execLd_B_E (s : State) : Out := outcome (load8 .b .e s)
/-- `LD B,H` (40_loads.md R150). -/
def execLd_B_H (s : State) : Out := outcome (load8 .b .h s)
/-- `LD B,L` (40_loads.md R150). -/
def execLd_B_L (s : State) : Out := outcome (load8 .b .l s)
/-- `LD B,[HL]` (40_loads.md R151). -/
def execLd_B_atHL (s : State) : Out := outcome (load8 .b .atHL s)
/-- `LD B,A` (40_loads.md R150). -/
def execLd_B_A (s : State) : Out := outcome (load8 .b .a s)
/-- `LD C,B` (40_loads.md R150). -/
def execLd_C_B (s : State) : Out := outcome (load8 .c .b s)
/-- `LD C,C` (40_loads.md R150). -/
def execLd_C_C (s : State) : Out := outcome (load8 .c .c s)
/-- `LD C,D` (40_loads.md R150). -/
def execLd_C_D (s : State) : Out := outcome (load8 .c .d s)
/-- `LD C,E` (40_loads.md R150). -/
def execLd_C_E (s : State) : Out := outcome (load8 .c .e s)
/-- `LD C,H` (40_loads.md R150). -/
def execLd_C_H (s : State) : Out := outcome (load8 .c .h s)
/-- `LD C,L` (40_loads.md R150). -/
def execLd_C_L (s : State) : Out := outcome (load8 .c .l s)
/-- `LD C,[HL]` (40_loads.md R151). -/
def execLd_C_atHL (s : State) : Out := outcome (load8 .c .atHL s)
/-- `LD C,A` (40_loads.md R150). -/
def execLd_C_A (s : State) : Out := outcome (load8 .c .a s)
/-- `LD D,B` (40_loads.md R150). -/
def execLd_D_B (s : State) : Out := outcome (load8 .d .b s)
/-- `LD D,C` (40_loads.md R150). -/
def execLd_D_C (s : State) : Out := outcome (load8 .d .c s)
/-- `LD D,D` (40_loads.md R150). -/
def execLd_D_D (s : State) : Out := outcome (load8 .d .d s)
/-- `LD D,E` (40_loads.md R150). -/
def execLd_D_E (s : State) : Out := outcome (load8 .d .e s)
/-- `LD D,H` (40_loads.md R150). -/
def execLd_D_H (s : State) : Out := outcome (load8 .d .h s)
/-- `LD D,L` (40_loads.md R150). -/
def execLd_D_L (s : State) : Out := outcome (load8 .d .l s)
/-- `LD D,[HL]` (40_loads.md R151). -/
def execLd_D_atHL (s : State) : Out := outcome (load8 .d .atHL s)
/-- `LD D,A` (40_loads.md R150). -/
def execLd_D_A (s : State) : Out := outcome (load8 .d .a s)
/-- `LD E,B` (40_loads.md R150). -/
def execLd_E_B (s : State) : Out := outcome (load8 .e .b s)
/-- `LD E,C` (40_loads.md R150). -/
def execLd_E_C (s : State) : Out := outcome (load8 .e .c s)
/-- `LD E,D` (40_loads.md R150). -/
def execLd_E_D (s : State) : Out := outcome (load8 .e .d s)
/-- `LD E,E` (40_loads.md R150). -/
def execLd_E_E (s : State) : Out := outcome (load8 .e .e s)
/-- `LD E,H` (40_loads.md R150). -/
def execLd_E_H (s : State) : Out := outcome (load8 .e .h s)
/-- `LD E,L` (40_loads.md R150). -/
def execLd_E_L (s : State) : Out := outcome (load8 .e .l s)
/-- `LD E,[HL]` (40_loads.md R151). -/
def execLd_E_atHL (s : State) : Out := outcome (load8 .e .atHL s)
/-- `LD E,A` (40_loads.md R150). -/
def execLd_E_A (s : State) : Out := outcome (load8 .e .a s)
/-- `LD H,B` (40_loads.md R150). -/
def execLd_H_B (s : State) : Out := outcome (load8 .h .b s)
/-- `LD H,C` (40_loads.md R150). -/
def execLd_H_C (s : State) : Out := outcome (load8 .h .c s)
/-- `LD H,D` (40_loads.md R150). -/
def execLd_H_D (s : State) : Out := outcome (load8 .h .d s)
/-- `LD H,E` (40_loads.md R150). -/
def execLd_H_E (s : State) : Out := outcome (load8 .h .e s)
/-- `LD H,H` (40_loads.md R150). -/
def execLd_H_H (s : State) : Out := outcome (load8 .h .h s)
/-- `LD H,L` (40_loads.md R150). -/
def execLd_H_L (s : State) : Out := outcome (load8 .h .l s)
/-- `LD H,[HL]` (40_loads.md R151). -/
def execLd_H_atHL (s : State) : Out := outcome (load8 .h .atHL s)
/-- `LD H,A` (40_loads.md R150). -/
def execLd_H_A (s : State) : Out := outcome (load8 .h .a s)
/-- `LD L,B` (40_loads.md R150). -/
def execLd_L_B (s : State) : Out := outcome (load8 .l .b s)
/-- `LD L,C` (40_loads.md R150). -/
def execLd_L_C (s : State) : Out := outcome (load8 .l .c s)
/-- `LD L,D` (40_loads.md R150). -/
def execLd_L_D (s : State) : Out := outcome (load8 .l .d s)
/-- `LD L,E` (40_loads.md R150). -/
def execLd_L_E (s : State) : Out := outcome (load8 .l .e s)
/-- `LD L,H` (40_loads.md R150). -/
def execLd_L_H (s : State) : Out := outcome (load8 .l .h s)
/-- `LD L,L` (40_loads.md R150). -/
def execLd_L_L (s : State) : Out := outcome (load8 .l .l s)
/-- `LD L,[HL]` (40_loads.md R151). -/
def execLd_L_atHL (s : State) : Out := outcome (load8 .l .atHL s)
/-- `LD L,A` (40_loads.md R150). -/
def execLd_L_A (s : State) : Out := outcome (load8 .l .a s)
/-- `LD [HL],B` (40_loads.md R152). -/
def execLd_atHL_B (s : State) : Out := outcome (load8 .atHL .b s)
/-- `LD [HL],C` (40_loads.md R152). -/
def execLd_atHL_C (s : State) : Out := outcome (load8 .atHL .c s)
/-- `LD [HL],D` (40_loads.md R152). -/
def execLd_atHL_D (s : State) : Out := outcome (load8 .atHL .d s)
/-- `LD [HL],E` (40_loads.md R152). -/
def execLd_atHL_E (s : State) : Out := outcome (load8 .atHL .e s)
/-- `LD [HL],H` (40_loads.md R152). -/
def execLd_atHL_H (s : State) : Out := outcome (load8 .atHL .h s)
/-- `LD [HL],L` (40_loads.md R152). -/
def execLd_atHL_L (s : State) : Out := outcome (load8 .atHL .l s)
/-- `LD [HL],A` (40_loads.md R152). -/
def execLd_atHL_A (s : State) : Out := outcome (load8 .atHL .a s)
/-- `LD A,B` (40_loads.md R150). -/
def execLd_A_B (s : State) : Out := outcome (load8 .a .b s)
/-- `LD A,C` (40_loads.md R150). -/
def execLd_A_C (s : State) : Out := outcome (load8 .a .c s)
/-- `LD A,D` (40_loads.md R150). -/
def execLd_A_D (s : State) : Out := outcome (load8 .a .d s)
/-- `LD A,E` (40_loads.md R150). -/
def execLd_A_E (s : State) : Out := outcome (load8 .a .e s)
/-- `LD A,H` (40_loads.md R150). -/
def execLd_A_H (s : State) : Out := outcome (load8 .a .h s)
/-- `LD A,L` (40_loads.md R150). -/
def execLd_A_L (s : State) : Out := outcome (load8 .a .l s)
/-- `LD A,[HL]` (40_loads.md R151). -/
def execLd_A_atHL (s : State) : Out := outcome (load8 .a .atHL s)
/-- `LD A,A` (40_loads.md R150). -/
def execLd_A_A (s : State) : Out := outcome (load8 .a .a s)
/-- `LDH [n8],A` (40_loads.md R159). -/
def execLdh_atn8_A (n : Byte) (s : State) : Out := outcome (storeHigh n s)
/-- `LDH [C],A` (40_loads.md R161). -/
def execLdh_atC_A (s : State) : Out := outcome (storeHighC s)
/-- `LD [n16],A` (40_loads.md R157). -/
def execLd_atn16_A (n : Word) (s : State) : Out := outcome (storeDirect n s)
/-- `LDH A,[n8]` (40_loads.md R160). -/
def execLdh_A_atn8 (n : Byte) (s : State) : Out := outcome (loadHigh n s)
/-- `LDH A,[C]` (40_loads.md R162). -/
def execLdh_A_atC (s : State) : Out := outcome (loadHighC s)
/-- `LD A,[n16]` (40_loads.md R158). -/
def execLd_A_atn16 (n : Word) (s : State) : Out := outcome (loadDirect n s)

end Sys2Proof.Machine
end

