-- ==== Sys2Proof/Machine/Stack.lean ====
section
/-! DEFINITION. Stack and SP instructions (44_stack.md). A meaning runs after the fetch: PC is the address after the
instruction's bytes (log 9). -/

namespace Sys2Proof.Machine

/-- `PUSH r16stk` (R291). -/
def push (rp : R16Stk) (s : State) : Except Fault State := do
  let s ← push16 (r16stkGet rp s) s
  .ok (s.setCycles 4)

/-- `POP r16stk` (R292). -/
def pop (rp : R16Stk) (s : State) : Except Fault State := do
  let (v, s) ← pop16 s
  .ok ((r16stkSet rp v s).setCycles 3)

/-- `LD [n16],SP` (R293): the low byte, then the high byte. -/
def storeSP (n : Word) (s : State) : Except Fault State := do
  let s ← busWrite n (loByte s.sp) s
  let s ← busWrite (n + 1) (hiByte s.sp) s
  .ok (s.setCycles 5)

/-- `LD SP,HL` (R294). -/
def loadSPHL (s : State) : Except Fault State := .ok ((s.setSP s.hl).setCycles 2)

/-- `ADD SP,e8` (R295). -/
def addSPe8 (e : Byte) (s : State) : Except Fault State :=
  let (r, h, c) := spPlusE8 s.sp e
  .ok (((s.setSP r).setFlags false false h c).setCycles 4)

/-- `LD HL,SP+e8` (R296): SP is not changed. -/
def loadHLSPe8 (e : Byte) (s : State) : Except Fault State :=
  let (r, h, c) := spPlusE8 s.sp e
  .ok (((s.setHL r).setFlags false false h c).setCycles 3)

/-- `LD [n16],SP` (44_stack.md R293). -/
def execLd_atn16_SP (n : Word) (s : State) : Out := outcome (storeSP n s)
/-- `POP BC` (44_stack.md R292). -/
def execPop_BC (s : State) : Out := outcome (pop .bc s)
/-- `PUSH BC` (44_stack.md R291). -/
def execPush_BC (s : State) : Out := outcome (push .bc s)
/-- `POP DE` (44_stack.md R292). -/
def execPop_DE (s : State) : Out := outcome (pop .de s)
/-- `PUSH DE` (44_stack.md R291). -/
def execPush_DE (s : State) : Out := outcome (push .de s)
/-- `POP HL` (44_stack.md R292). -/
def execPop_HL (s : State) : Out := outcome (pop .hl s)
/-- `PUSH HL` (44_stack.md R291). -/
def execPush_HL (s : State) : Out := outcome (push .hl s)
/-- `ADD SP,e8` (44_stack.md R295). -/
def execAdd_SP_e8 (e : Byte) (s : State) : Out := outcome (addSPe8 e s)
/-- `POP AF` (44_stack.md R292). -/
def execPop_AF (s : State) : Out := outcome (pop .af s)
/-- `PUSH AF` (44_stack.md R291). -/
def execPush_AF (s : State) : Out := outcome (push .af s)
/-- `LD HL,SP+e8` (44_stack.md R296). -/
def execLd_HL_SPe8 (e : Byte) (s : State) : Out := outcome (loadHLSPe8 e s)
/-- `LD SP,HL` (44_stack.md R294). -/
def execLd_SP_HL (s : State) : Out := outcome (loadSPHL s)

end Sys2Proof.Machine
end

