-- ==== Sys2Proof/Machine/Step.lean ====
section
/-! DEFINITION. One step of the machine, and the placing of an instruction where the next step fetches. -/

namespace Sys2Proof.Machine

/-- One call of `step(bus)` (30_encoding.md R110). -/
def step (s : State) : Host.Outcome State Fault Refusal := stepWith exec s

/-- The state with a table word's instruction stored at PC (log 13). -/
def State.withFetchWord (s : State) (nbits w : Nat) : State := placeTableWord s nbits w

end Sys2Proof.Machine
end

