-- ==== Sys2Proof/Safety.lean ====
section
/-! DEFINITION. The invariant of the machine and what a safe run is, in the terms the statements use. -/

namespace Sys2Proof.Machine

/-- A storage key lies in no window without storage: not in the echo window and not in the unusable window, in any
work-RAM bank (10_state.md R50; 20_memory.md R78, R79). -/
def keyHasStorage (k : Nat) : Bool :=
  let a := k % 0x10000
  !(decide (0xE000 ≤ a) && decide (a < 0xFE00)) && !(decide (0xFEA0 ≤ a) && decide (a < 0xFF00))

/-- Every listed byte stands where some device stores bytes. -/
def State.storageOk (s : State) : Bool := s.mem.all fun e => keyHasStorage e.1

/-- F[3:0] is zero in the stored pair too (10_state.md R34). -/
def State.flagsOk (s : State) : Bool := s.af &&& 0x000F == 0

/-- The invariant every step keeps: memory in its canonical form, bytes only where a device stores them, F[3:0] zero. -/
def StateInv (s : State) : Prop := s.mem.wf = true ∧ s.storageOk = true ∧ s.flagsOk = true

/-- The state the driver holds after a call of `step`: an error commits nothing (60_exceptions.md R372, R375). -/
def stateAfterCall (s : State) : State :=
  match step s with
  | .next t => t
  | .fault _ => s
  | .refused _ => s

/-- What a call of `step` returns to the driver: the cycle count or the typed error (00_scope.md R8). No step is refused
in this model; a refusal would return nothing. -/
def stepResult (s : State) : Option (Except Fault Nat) :=
  match step s with
  | .next t => some (.ok t.cycles)
  | .fault f => some (.error f)
  | .refused _ => none

/-- The step runs an instruction: the machine is not idling and takes no interrupt (30_encoding.md R110). -/
def runsInstruction (s : State) : Prop :=
  ∃ p, pendingAtStart s = .ok p ∧ (s.halted = true → p ≠ 0) ∧ (s.ime = true → p = 0)

/-! ### The words of the statements -/

/-- The four flags of a state, in the order Z, N, H, C (10_state.md R33). -/
def State.flagsAre (s : State) (z n h c : Bool) : Prop := s.fZ = z ∧ s.fN = n ∧ s.fH = h ∧ s.fC = c

/-- The two writes of a push, SP - 1 first (00_scope.md R15), without the change of SP. -/
def pushWrites (v : Word) (s : State) : Except Fault State := do
  let s1 ← busWrite (s.sp - 1) (hiByte v) s
  busWrite (s.sp - 2) (loByte v) s1

/-- The two reads of a pop, the low byte first (00_scope.md R15), without the change of SP. -/
def popReads (s : State) : Except Fault (Word × State) := do
  let (lo, s1) ← busRead s.sp s
  let (hi, s2) ← busRead (s.sp + 1) s1
  .ok (join hi lo, s2)

/-- The eleven illegal first bytes (30_encoding.md R134). -/
def illegalOpcodes : List Byte := [0xD3, 0xDB, 0xDD, 0xE3, 0xE4, 0xEB, 0xEC, 0xED, 0xF4, 0xFC, 0xFD]

/-- The device behind the address is not an open one: its answers do not depend on `ext`. -/
def State.closed (s : State) (a : Word) : Prop := s.accessOf a ≠ .external

/-- The byte a read of an address gives, if it is accepted. -/
def readByte (a : Word) (s : State) : Except Fault Byte :=
  match busRead a s with
  | .ok (v, _) => .ok v
  | .error f => .error f

/-- The address with the echo window folded onto work RAM (20_memory.md R79). -/
def echoFold (a : Word) : Nat := if 0xE000 ≤ a.toNat ∧ a.toNat < 0xFE00 then a.toNat - 0x2000 else a.toNat

/-- `res` and `c` are what the shift and rotate unit gives for the operand `v` (the table of 45_bitops.md R314). -/
def rotateIs (k : RotOp) (v : Byte) (fC : Bool) (res : Byte) (c : Bool) : Prop :=
  match k with
  | .rlc => res = v.rotateLeft 1 ∧ c = v.getLsbD 7
  | .rrc => res = v.rotateRight 1 ∧ c = v.getLsbD 0
  | .rl => res = BitVec.ofNat 8 (2 * v.toNat + fC.toNat) ∧ c = v.getLsbD 7
  | .rr => res = BitVec.ofNat 8 (v.toNat / 2 + 128 * fC.toNat) ∧ c = v.getLsbD 0
  | .sla => res = v + v ∧ c = v.getLsbD 7
  | .sra => res = v.sshiftRight 1 ∧ c = v.getLsbD 0
  | .swap => res = v.rotateLeft 4 ∧ c = false
  | .srl => res = BitVec.ofNat 8 (v.toNat / 2) ∧ c = v.getLsbD 0

/-- `i` writes A to the byte at `addr` and returns `n`, or fails with the error of that write. -/
def storesA (i : Instr) (addr : Word) (n : Nat) (s : State) : Prop :=
  (∀ t, busWrite addr s.A s = .ok t → exec i s = .next { t with cycles := n }) ∧
    ∀ f, busWrite addr s.A s = .error f → exec i s = .fault f

/-- `i` reads the byte at `addr` into A and returns `n`, or fails with the error of that read. -/
def loadsA (i : Instr) (addr : Word) (n : Nat) (s : State) : Prop :=
  (∀ (v : Byte) (t : State), busRead addr s = .ok (v, t) →
    ∃ u, exec i s = .next u ∧ u = { t with af := u.af, cycles := n } ∧ u.A = v ∧ u.F = s.F) ∧
    ∀ f, busRead addr s = .error f → exec i s = .fault f

/-- Two decimal digits in one byte. -/
def bcd (n : Nat) : Byte := BitVec.ofNat 8 (n / 10 % 10 * 16 + n % 10)

/-! Which instructions write which register, as the table of 10_state.md R38 lists them. -/

/-- The row of F in 10_state.md R38. -/
def writesFlags (i : Instr) : Prop :=
  (∃ op r, i = mkAlu op r) ∨ (∃ op n, i = mkAluImm op n) ∨ (∃ r, i = mkInc8 r) ∨ (∃ r, i = mkDec8 r) ∨
    i = .daa ∨ i = .cpl ∨ i = .scf ∨ i = .ccf ∨ (∃ rp, i = mkAddHL rp) ∨ (∃ e, i = .add_SP_e8 e) ∨
    (∃ e, i = .ld_HL_SPe8 e) ∨ i = .rlca ∨ i = .rrca ∨ i = .rla ∨ i = .rra ∨ (∃ k r, i = mkRot k r) ∨
    (∃ b r, i = mkBit b r) ∨ i = .pop_AF

/-- The row of A in 10_state.md R38. -/
def writesA (i : Instr) : Prop :=
  (∃ r, i = mkLd .a r) ∨ (∃ n, i = mkLdImm .a n) ∨ (∃ m, i = mkLoadMem m) ∨ (∃ n, i = .ld_A_atn16 n) ∨
    (∃ n, i = .ldh_A_atn8 n) ∨ i = .ldh_A_atC ∨ (∃ op r, op ≠ .cp ∧ i = mkAlu op r) ∨
    (∃ op n, op ≠ .cp ∧ i = mkAluImm op n) ∨ i = mkInc8 .a ∨ i = mkDec8 .a ∨ i = .daa ∨ i = .cpl ∨
    i = .rlca ∨ i = .rrca ∨ i = .rla ∨ i = .rra ∨ (∃ k, i = mkRot k .a) ∨ (∃ b, i = mkRes b .a) ∨
    (∃ b, i = mkSet b .a) ∨ i = .pop_AF

/-- The forms of the row of B, C, D, E, H, L in 10_state.md R38 that name one 8-bit register. -/
def writesByte (r : R8) (i : Instr) : Prop :=
  (∃ r', i = mkLd r r') ∨ (∃ n, i = mkLdImm r n) ∨ i = mkInc8 r ∨ i = mkDec8 r ∨ (∃ k, i = mkRot k r) ∨
    (∃ b, i = mkRes b r) ∨ (∃ b, i = mkSet b r)

/-- The forms of that row that name a whole pair. -/
def writesPair (rp : R16) (rs : R16Stk) (i : Instr) : Prop :=
  (∃ n, i = mkLdR16 rp n) ∨ i = mkPop rs ∨ i = mkIncR16 rp ∨ i = mkDecR16 rp

/-- The forms of that row that name HL by themselves. -/
def writesHL (i : Instr) : Prop :=
  (∃ rp, i = mkAddHL rp) ∨ (∃ e, i = .ld_HL_SPe8 e) ∨ i = mkStoreMem .hlInc ∨ i = mkStoreMem .hlDec ∨
    i = mkLoadMem .hlInc ∨ i = mkLoadMem .hlDec

/-- The row of SP in 10_state.md R38. -/
def writesSP (i : Instr) : Prop :=
  (∃ n, i = mkLdR16 .sp n) ∨ i = .ld_SP_HL ∨ i = mkIncR16 .sp ∨ i = mkDecR16 .sp ∨ (∃ e, i = .add_SP_e8 e) ∨
    (∃ rs, i = mkPush rs) ∨ (∃ rs, i = mkPop rs) ∨ (∃ n, i = .call_n16 n) ∨ (∃ cc n, i = mkCallIf cc n) ∨ i = .ret ∨
    (∃ cc, i = mkRetIf cc) ∨ i = .reti ∨ (∃ t, i = mkRst t)

/-- The row of PC in 10_state.md R38, the advance of the fetch apart. -/
def writesPC (i : Instr) : Prop :=
  (∃ n, i = .jp_n16 n) ∨ (∃ cc n, i = mkJpIf cc n) ∨ i = .jp_HL ∨ (∃ e, i = .jr_e8 e) ∨ (∃ cc e, i = mkJrIf cc e) ∨
    (∃ n, i = .call_n16 n) ∨ (∃ cc n, i = mkCallIf cc n) ∨ i = .ret ∨ (∃ cc, i = mkRetIf cc) ∨ i = .reti ∨
    (∃ t, i = mkRst t)

/-- `i` stores to the bus address `a` when it runs in the state `s` (40_loads.md, 41_alu8.md R219, R221, 43_jumps.md R265,
R266, R270, 44_stack.md R291, R293, 45_bitops.md). The addresses are the operand's own: HL, the pair of `r16mem`, n16, the
LDH address, or the two bytes below SP. -/
def storesAt (i : Instr) (s : State) (a : Word) : Prop :=
  (a = s.hl ∧ ((∃ r, r ≠ .atHL ∧ i = mkLd .atHL r) ∨ (∃ n, i = mkLdImm .atHL n) ∨ i = mkInc8 .atHL ∨ i = mkDec8 .atHL ∨
      (∃ k, i = mkRot k .atHL) ∨ (∃ b, i = mkRes b .atHL) ∨ (∃ b, i = mkSet b .atHL))) ∨
    (∃ m, i = mkStoreMem m ∧ a = (r16mem m s).1) ∨
    i = .ld_atn16_A a ∨
    (∃ n, i = .ldh_atn8_A n ∧ a = ldhAddr n) ∨
    (i = .ldh_atC_A ∧ a = ldhAddr s.C) ∨
    (∃ n, i = .ld_atn16_SP n ∧ (a = n ∨ a = n + 1)) ∨
    ((a = s.sp - 1 ∨ a = s.sp - 2) ∧
      ((∃ rs, i = mkPush rs) ∨ (∃ n, i = .call_n16 n) ∨ (∃ cc n, s.holds cc = true ∧ i = mkCallIf cc n) ∨
        (∃ t, i = mkRst t)))

end Sys2Proof.Machine
end

