-- ==== Sys2Proof/Certificates/Slice0/Obligations.lean ====
section
/-! DEFINITION. The statements for the provers. `exec` runs on the state after the fetch: PC is the address after the
instruction's bytes (log 9), so in a statement about `exec` the fetch has been made, and `StepRunsDecodedInstruction` says
what a whole step is. The count a rule gives stands in the field `cycles` (log 1). -/

section Statements

open Sys2Proof Sys2Proof.Machine

/-! ### Reset, the step, the encoding -/

/-- 10_state.md R51, R52: whatever devices and contents the driver gives (R53), the registers and the engine fields are
zero after construction, which touches no device. `State.reset` is one of these states (the choice of it is the model's,
log 2 and log 3). -/
def Obligations.PowerOnState : Prop :=
  (∀ (mem : Memory) (cart : CartDevice) (io : IoDevice) (video : VideoAccess) (wramx : WramxBank) (ext : Nat),
    let s := State.powerOn mem cart io video wramx ext
    (∀ p : Pair, s.pair p = 0x0000) ∧
      (s.A = 0x00 ∧ s.F = 0x00 ∧ s.B = 0x00 ∧ s.C = 0x00 ∧ s.D = 0x00 ∧ s.E = 0x00 ∧ s.H = 0x00 ∧ s.L = 0x00) ∧
      s.flagsAre false false false false ∧
      s.ime = false ∧ s.halted = false ∧ s.eiDelay = false ∧
      s.mem = mem ∧ s.cart = cart ∧ s.io = io ∧ s.video = video ∧ s.wramx = wramx ∧ s.ext = ext) ∧
  ∃ mem cart io video wramx ext, State.reset = State.powerOn mem cart io video wramx ext

/-- 70_reset_and_hazards.md R412, R414: the first step after reset takes no interrupt, whatever IE and IF hold, and runs
the instruction fetched at 0x0000, which dispatch sends to ROM bank 0. -/
def Obligations.FirstStepAfterReset : Prop :=
  ∀ (mem : Memory) (cart : CartDevice) (io : IoDevice) (video : VideoAccess) (wramx : WramxBank) (ext : Nat),
    let s := State.powerOn mem cart io video wramx ext
    runsInstruction s ∧ s.pc = 0x0000 ∧ dispatch s.pc = (.romBank0, 0) ∧
      step s =
        match fetchInstr s with
        | .ok (i, s1) => exec i s1
        | .error f => .fault f

/-- The invariant holds after reset (its contents and devices are the model's choice, log 2 and log 3), and after every
construction with canonical contents. -/
def Obligations.ResetMeetsInvariant : Prop :=
  StateInv State.reset ∧
    ∀ (mem : Memory) (cart : CartDevice) (io : IoDevice) (video : VideoAccess) (wramx : WramxBank) (ext : Nat),
      mem.wf = true → (State.powerOn mem cart io video wramx ext).storageOk = true →
      StateInv (State.powerOn mem cart io video wramx ext)

/-- Every step keeps the invariant: memory stays in its canonical form, no byte is stored in the echo window or the unusable
window (10_state.md R50), and the stored F[3:0] stay zero (10_state.md R34). -/
def Obligations.StepKeepsInvariant : Prop :=
  ∀ s t : State, StateInv s → step s = .next t → StateInv t

/-- A step that neither idles nor takes an interrupt runs `exec` of the instruction its bytes decode to, on the state the
fetch leaves (30_encoding.md R110, R112; log 9), and at its end makes the pending enable of 60_exceptions.md R385. -/
def Obligations.StepRunsDecodedInstruction : Prop :=
  ∀ (s s1 : State) (bytes : List Byte) (i : Instr),
    runsInstruction s → decode bytes = .ok (i, []) →
    fetchBytes bytes.length (s.setHalted false) = .ok (bytes, s1) →
    s1 = { s with halted := false, pc := s.pc + BitVec.ofNat 16 bytes.length, ext := s1.ext } ∧
      step s =
        match exec i s1 with
        | .next t =>
          .next (if s.eiDelay = true ∧ t.eiDelay = true then { t with ime := true, eiDelay := false } else t)
        | .fault f => .fault f
        | .refused r => .refused r

/-- Decoding the bytes of a well-formed instruction gives it back, whatever bytes follow: no bit of an encoding is
dropped. -/
def Obligations.DecodeOfEncode : Prop :=
  ∀ (i : Instr) (rest : List Byte), WellFormed i → decode (encode i ++ rest) = .ok (i, rest)

/-- What the decoder reads is well formed, and its encoding is the bytes read: every encoding has one meaning
(30_encoding.md R133, R135). -/
def Obligations.EncodeOfDecode : Prop :=
  ∀ (bytes : List Byte) (i : Instr) (rest : List Byte),
    decode bytes = .ok (i, rest) → WellFormed i ∧ encode i ++ rest = bytes

/-- The decoder is total: it refuses only input that ends inside an instruction, and it reads as many bytes as the first
byte alone says (30_encoding.md R111, R133, R140). -/
def Obligations.DecodeRejectsOnlyShortInput : Prop :=
  decode [] = .error .noBytes ∧
    ∀ (op : Byte) (rest : List Byte),
      (rest.length + 1 < instrLength op → decode (op :: rest) = .error (.truncated op)) ∧
        (instrLength op ≤ rest.length + 1 →
          ∃ i, decode (op :: rest) = .ok (i, (op :: rest).drop (instrLength op)))

/-- Words written out from the opcode maps (30_encoding.md R128 to R132), one or more of each family. -/
def Obligations.OpcodeWordsDecode : Prop :=
  decode [0x41] = .ok (.ld_B_C, []) ∧
    decode [0x22] = .ok (.ld_atHLinc_A, []) ∧
    decode [0xEA, 0x34, 0xC2] = .ok (.ld_atn16_A 0xC234, []) ∧
    decode [0x9E] = .ok (.sbc_A_atHL, []) ∧
    decode [0xFE, 0x40] = .ok (.cp_A_n8 0x40, []) ∧
    decode [0x35] = .ok (.dec_atHL, []) ∧
    decode [0x39] = .ok (.add_HL_SP, []) ∧
    decode [0x20, 0x05] = .ok (.jr_NZ_e8 0x05, []) ∧
    decode [0xDC, 0x00, 0x30] = .ok (.call_C_n16 0x3000, []) ∧
    decode [0xEF] = .ok (.rst_28, []) ∧
    decode [0xF1] = .ok (.pop_AF, []) ∧
    decode [0xF8, 0x02] = .ok (.ld_HL_SPe8 0x02, []) ∧
    decode [0xCB, 0xCB] = .ok (.set_1_E, []) ∧
    decode [0xCB, 0x37] = .ok (.swap_A, []) ∧
    decode [0x76] = .ok (.halt, []) ∧
    decode [0x10, 0x00] = .ok (.stop_n8 0x00, []) ∧
    decode [0xD3] = .ok (.illegal_D3, [])

/-- 30_encoding.md R134, 46_control.md R355: a step that fetches an illegal opcode fails with `OperandError` naming it and
commits nothing, so every later step fails the same way; the meaning of each of the eleven rows is that error. -/
def Obligations.IllegalOpcodesFail : Prop :=
  (∀ (s s1 : State) (op : Byte), op ∈ illegalOpcodes → runsInstruction s →
    busRead s.pc (s.setHalted false) = .ok (op, s1) →
    step s = .fault (.illegalOpcode op) ∧ stateAfterCall s = s ∧
      step (stateAfterCall s) = .fault (.illegalOpcode op)) ∧
  ∀ s : State,
    exec .illegal_D3 s = .fault (.illegalOpcode 0xD3) ∧ exec .illegal_DB s = .fault (.illegalOpcode 0xDB) ∧
      exec .illegal_DD s = .fault (.illegalOpcode 0xDD) ∧ exec .illegal_E3 s = .fault (.illegalOpcode 0xE3) ∧
      exec .illegal_E4 s = .fault (.illegalOpcode 0xE4) ∧ exec .illegal_EB s = .fault (.illegalOpcode 0xEB) ∧
      exec .illegal_EC s = .fault (.illegalOpcode 0xEC) ∧ exec .illegal_ED s = .fault (.illegalOpcode 0xED) ∧
      exec .illegal_F4 s = .fault (.illegalOpcode 0xF4) ∧ exec .illegal_FC s = .fault (.illegalOpcode 0xFC) ∧
      exec .illegal_FD s = .fault (.illegalOpcode 0xFD)

/-- 00_scope.md R14, 10_state.md R39, R40, 30_encoding.md R112, 60_exceptions.md R376: one byte is fetched by a bus read at
PC, which then advances and wraps; a failing access ends the step with its error, the interrupt test before the opcode
fetch and the opcode fetch before the operand fetches. -/
def Obligations.FetchByteAndOrder : Prop :=
  (∀ (s s1 : State) (v : Byte), busRead s.pc s = .ok (v, s1) →
    fetch8 s = .ok (v, { s1 with pc := s.pc + 1 }) ∧
      (s.pc = 0xFFFF → fetch8 s = .ok (v, { s1 with pc := 0x0000 }))) ∧
  (∀ (s : State) (f : Fault), busRead s.pc s = .error f → fetch8 s = .error f) ∧
  (∀ (s : State) (f : Fault), pendingAtStart s = .error f → step s = .fault f) ∧
  (∀ (s : State) (f : Fault), runsInstruction s → fetch8 (s.setHalted false) = .error f → step s = .fault f) ∧
  (∀ (s s1 : State) (op : Byte) (f : Fault), runsInstruction s → fetch8 (s.setHalted false) = .ok (op, s1) →
    fetchBytes (instrLength op - 1) s1 = .error f → step s = .fault f)

/-- 60_exceptions.md R372, R375 (the reading of a failed call is the model's, log 14): a failed step leaves the state
before it, and the next call fails with the same error; a successful one commits its state and returns its count. -/
def Obligations.FailedStepCommitsNothing : Prop :=
  (∀ (s : State) (f : Fault), step s = .fault f →
    stateAfterCall s = s ∧ step (stateAfterCall s) = .fault f ∧ stepResult s = some (.error f)) ∧
  ∀ s t : State, step s = .next t → stateAfterCall s = t ∧ stepResult s = some (.ok t.cycles)

/-- 60_exceptions.md R370, R371: a step succeeds or fails with one of the two typed errors, and nothing else; a
`MemoryAccessError` names the address and the kind of the access that failed. -/
def Obligations.StepOutcomes : Prop :=
  (∀ s : State,
    (∃ t, step s = .next t) ∨ (∃ a k, step s = .fault (.memoryAccess a k)) ∨
      ∃ op, op ∈ illegalOpcodes ∧ step s = .fault (.illegalOpcode op)) ∧
  (∀ (s : State) (a : Word) (f : Fault), busRead a s = .error f → f = .memoryAccess a .read) ∧
  (∀ (s : State) (a : Word) (v : Byte) (f : Fault), busWrite a v s = .error f → f = .memoryAccess a .write) ∧
  (∀ (s : State) (a : Word) (f : Fault), busPeek a s = .error f → f = .memoryAccess a .peek)

/-- 60_exceptions.md R377: with the reference devices no access fails, so `IllegalOpcode` is the only error, and no step
changes which devices are attached. -/
def Obligations.ReferenceDevicesNeverReject : Prop :=
  ∀ s : State, s.referenceDevices →
    (∀ (a : Word) (v : Byte),
      (∃ w, busRead a s = .ok (w, s)) ∧ (∃ t, busWrite a v s = .ok t) ∧ ∃ w, busPeek a s = .ok w) ∧
      (∀ f, step s = .fault f → ∃ op, op ∈ illegalOpcodes ∧ f = .illegalOpcode op) ∧
      ∀ t, step s = .next t → t.referenceDevices

/-! ### The bus -/

/-- 20_memory.md R72, R73, R74: the twelve ranges, the device and the offset dispatch gives in each, and the partition:
every address lies in exactly one entry. -/
def Obligations.MapPartition : Prop :=
  (∀ r ∈ [(MMDevice.romBank0, 0x0000, 0x4000), (.romSwitchable, 0x4000, 0x8000), (.videoRam, 0x8000, 0xA000),
      (.externalRam, 0xA000, 0xC000), (.workRam0, 0xC000, 0xD000), (.workRamX, 0xD000, 0xE000),
      (.echoRam, 0xE000, 0xFE00), (.oam, 0xFE00, 0xFEA0), (.unusable, 0xFEA0, 0xFF00), (.ioRegisters, 0xFF00, 0xFF80),
      (.highRam, 0xFF80, 0xFFFF), (.interruptEnable, 0xFFFF, 0x10000)],
    ∀ a : Word, r.2.1 ≤ a.toNat → a.toNat < r.2.2 → dispatch a = (r.1, a.toNat - r.2.1)) ∧
  ∀ a : Word, ∃! e : MapEntry, e ∈ memoryMap ∧ e.base ≤ a.toNat ∧ a.toNat < e.base + e.size

/-- 20_memory.md R79: an access through the echo window is the access to the work RAM 0x2000 below, and a byte written
through either window is read back through the other, for every offset below 0x1E00. -/
def Obligations.EchoIsWorkRam : Prop :=
  (∀ (a : Word) (s : State), 0xE000 ≤ a.toNat → a.toNat < 0xFE00 →
    busRead a s = busRead (a - 0x2000) s ∧ busPeek a s = busPeek (a - 0x2000) s ∧
      ∀ v, busWrite a v s = busWrite (a - 0x2000) v s) ∧
  ∀ (k : Nat) (s t : State) (v : Byte), k < 0x1E00 → s.mem.wf = true →
    (busWrite (BitVec.ofNat 16 (0xE000 + k)) v s = .ok t →
      busRead (BitVec.ofNat 16 (0xC000 + k)) t = .ok (v, t)) ∧
    (busWrite (BitVec.ofNat 16 (0xC000 + k)) v s = .ok t →
      busRead (BitVec.ofNat 16 (0xE000 + k)) t = .ok (v, t))

/-- 20_memory.md R78: the unusable window reads the sentinel 0xFF, accepts writes without effect and never fails. -/
def Obligations.UnusableWindow : Prop :=
  ∀ (a : Word) (s : State) (v : Byte), 0xFEA0 ≤ a.toNat → a.toNat < 0xFF00 →
    busRead a s = .ok (0xFF, s) ∧ busPeek a s = .ok 0xFF ∧ busWrite a v s = .ok s

/-- 20_memory.md R82: a RAM-backed device stores bytes. A read changes nothing and a peek equals it; a write never fails,
changes storage alone, is read back, and leaves what every other byte reads as, the echo of the byte apart. The bank policy
of the switchable work RAM may be any (`s.wramx` is free); the video restriction is the reference one. -/
def Obligations.RamStoresBytes : Prop :=
  ∀ (a : Word) (s : State) (v : Byte), s.video = .unrestricted → s.mem.wf = true →
    (dispatch a).1 ∈
      [MMDevice.videoRam, .workRam0, .workRamX, .oam, .highRam, .interruptEnable] →
    (∃ w, busRead a s = .ok (w, s) ∧ busPeek a s = .ok w) ∧
      ∃ t, busWrite a v s = .ok t ∧ t = { s with mem := t.mem } ∧ busRead a t = .ok (v, t) ∧
        ∀ b : Word, echoFold b ≠ echoFold a → readByte b t = readByte b s

/-- 20_memory.md R83, R84: the reference cartridge is an image that ignores writes and 8 KiB of RAM, the reference I/O
block 0x80 bytes of plain storage. -/
def Obligations.ReferenceCartAndIo : Prop :=
  (∀ (a : Word) (s : State) (v : Byte), s.cart = .flat → a.toNat < 0x8000 →
    busRead a s = .ok (s.mem.read a.toNat, s) ∧ busPeek a s = .ok (s.mem.read a.toNat) ∧ busWrite a v s = .ok s) ∧
  ∀ (a : Word) (s : State) (v : Byte), s.mem.wf = true →
    ((s.cart = .flat ∧ 0xA000 ≤ a.toNat ∧ a.toNat < 0xC000) ∨
      (s.io = .plain ∧ 0xFF00 ≤ a.toNat ∧ a.toNat < 0xFF80)) →
    (∃ w, busRead a s = .ok (w, s) ∧ busPeek a s = .ok w) ∧
      ∃ t, busWrite a v s = .ok t ∧ t = { s with mem := t.mem } ∧ busRead a t = .ok (v, t)

/-- 20_memory.md R77: where peek and read both accept, they give the same byte, for every device (log 6); where the device is neither
an open one nor the rejecting one they accept together and the read changes nothing. A peek has no next state. -/
def Obligations.PeekAgreesWithRead : Prop :=
  (∀ (a : Word) (s t : State) (v w : Byte), busPeek a s = .ok v → busRead a s = .ok (w, t) → v = w) ∧
  ∀ (a : Word) (s : State) (v : Byte), s.closed a → (∀ l, s.io ≠ .rejecting l) →
    (busPeek a s = .ok v ↔ busRead a s = .ok (v, s))

/-- 10_state.md R49, 20_memory.md R90: an accepted access changes no register and no engine field; a write changes at most
the byte of the address written, in whatever bank it stands; an access to a device that is not open leaves the open
devices alone, and a read of one changes nothing. -/
def Obligations.BusAccessFrame : Prop :=
  (∀ (a : Word) (s t : State) (v : Byte), busRead a s = .ok (v, t) →
    t = { s with ext := t.ext } ∧ (s.closed a → t = s)) ∧
  ∀ (a : Word) (s t : State) (v : Byte), busWrite a v s = .ok t →
    t = { s with mem := t.mem, ext := t.ext } ∧ (s.closed a → t.ext = s.ext) ∧
      ∀ k : Nat, k % 0x10000 ≠ echoFold a → t.mem.read k = s.mem.read k

/-! ### Registers, flags, operands -/

/-- 10_state.md R31, R32: the halves are the high and low byte of their pair, a write of a half changes that half alone (of
F the four flag bits, R34), and a pair written is read back by its halves (for AF see `FlagBits`). -/
def Obligations.RegisterHalves : Prop :=
  (∀ s : State,
    s.A.toNat = s.AF.toNat / 256 ∧ s.F.toNat = s.AF.toNat % 256 ∧ s.B.toNat = s.bc.toNat / 256 ∧ s.C.toNat = s.bc.toNat % 256 ∧
      s.D.toNat = s.de.toNat / 256 ∧ s.E.toNat = s.de.toNat % 256 ∧ s.H.toNat = s.hl.toNat / 256 ∧
      s.L.toNat = s.hl.toNat % 256) ∧
  (∀ (s : State) (v : Byte),
    ((s.setA v).A = v ∧ (s.setA v).F = s.F ∧ s.setA v = { s with af := (s.setA v).af }) ∧
      ((s.setF v).F = v &&& 0xF0 ∧ (s.setF v).A = s.A ∧ s.setF v = { s with af := (s.setF v).af }) ∧
      ((s.setB v).B = v ∧ (s.setB v).C = s.C ∧ s.setB v = { s with bc := (s.setB v).bc }) ∧
      ((s.setC v).C = v ∧ (s.setC v).B = s.B ∧ s.setC v = { s with bc := (s.setC v).bc }) ∧
      ((s.setD v).D = v ∧ (s.setD v).E = s.E ∧ s.setD v = { s with de := (s.setD v).de }) ∧
      ((s.setE v).E = v ∧ (s.setE v).D = s.D ∧ s.setE v = { s with de := (s.setE v).de }) ∧
      ((s.setH v).H = v ∧ (s.setH v).L = s.L ∧ s.setH v = { s with hl := (s.setH v).hl }) ∧
      ((s.setL v).L = v ∧ (s.setL v).H = s.H ∧ s.setL v = { s with hl := (s.setL v).hl })) ∧
  ∀ (s : State) (v : Word),
    join (s.setBC v).B (s.setBC v).C = v ∧ join (s.setDE v).D (s.setDE v).E = v ∧ join (s.setHL v).H (s.setHL v).L = v

/-- 10_state.md R33, R34, R35: the four flags stand in F[7:4], F[3:0] reads as zero and takes no write, and a flag is set in
its own bit alone. -/
def Obligations.FlagBits : Prop :=
  (∀ s : State, s.F.toNat = s.af.toNat % 256 / 16 * 16 ∧ s.AF.toNat = s.af.toNat / 16 * 16 ∧
    s.fZ = s.F.getLsbD 7 ∧ s.fN = s.F.getLsbD 6 ∧ s.fH = s.F.getLsbD 5 ∧ s.fC = s.F.getLsbD 4) ∧
  (∀ (s : State) (v : Word), join (s.setAF v).A (s.setAF v).F = v &&& 0xFFF0 ∧ (s.setAF v).AF = v &&& 0xFFF0 ∧
    s.setAF v = { s with af := v &&& 0xFFF0 }) ∧
  (∀ (s : State) (v : Byte), (s.setF v).F = v &&& 0xF0 ∧ (s.setF v).A = s.A ∧ s.setF v = { s with af := (s.setF v).af }) ∧
  ∀ (s : State) (b : Bool),
    ((s.setFZ b).F = (s.F &&& ~~~0x80#8) ||| (if b then 0x80#8 else 0#8) ∧ (s.setFZ b).A = s.A) ∧
      ((s.setFN b).F = (s.F &&& ~~~0x40#8) ||| (if b then 0x40#8 else 0#8) ∧ (s.setFN b).A = s.A) ∧
      ((s.setFH b).F = (s.F &&& ~~~0x20#8) ||| (if b then 0x20#8 else 0#8) ∧ (s.setFH b).A = s.A) ∧
      ((s.setFC b).F = (s.F &&& ~~~0x10#8) ||| (if b then 0x10#8 else 0#8) ∧ (s.setFC b).A = s.A)

/-- 10_state.md R36: take-and-increment and take-and-decrement return the pair's value and change it by one modulo 2^16, and
no other pair; of AF the new value's bits 3..0 are stored as zero, as every write of AF stores them (R34). -/
def Obligations.TakeAndModify : Prop :=
  (∀ (p : Pair) (s : State),
    let up := BitVec.ofNat 16 ((s.pair p).toNat + 1)
    let down := BitVec.ofNat 16 ((s.pair p).toNat + 0xFFFF)
    (takeAndIncrement p s).1 = s.pair p ∧ (takeAndDecrement p s).1 = s.pair p ∧
      ((takeAndIncrement p s).2).pair p = (if p = .af then up &&& 0xFFF0 else up) ∧
      ((takeAndDecrement p s).2).pair p = (if p = .af then down &&& 0xFFF0 else down) ∧
      ∀ q, q ≠ p → ((takeAndIncrement p s).2).pair q = s.pair q ∧ ((takeAndDecrement p s).2).pair q = s.pair q) ∧
  ∀ (p : Pair) (s : State), p ≠ .af →
    (s.pair p = 0xFFFF → ((takeAndIncrement p s).2).pair p = 0x0000) ∧
      (s.pair p = 0x0000 → ((takeAndDecrement p s).2).pair p = 0xFFFF)

/-- 30_encoding.md R114, R115: the index order of the 8-bit operands, and what reading and writing each one does; `[HL]` is
the byte at the address in HL, by one bus access. -/
def Obligations.ByteOperands : Prop :=
  (r8Of 0 = .b ∧ r8Of 1 = .c ∧ r8Of 2 = .d ∧ r8Of 3 = .e ∧ r8Of 4 = .h ∧ r8Of 5 = .l ∧ r8Of 6 = .atHL ∧ r8Of 7 = .a) ∧
  (∀ s : State,
    r8get .b s = .ok (s.B, s) ∧ r8get .c s = .ok (s.C, s) ∧ r8get .d s = .ok (s.D, s) ∧ r8get .e s = .ok (s.E, s) ∧
      r8get .h s = .ok (s.H, s) ∧ r8get .l s = .ok (s.L, s) ∧ r8get .atHL s = busRead s.hl s ∧
      r8get .a s = .ok (s.A, s)) ∧
  ∀ (s : State) (v : Byte),
    r8set .b v s = .ok { s with bc := join v s.C } ∧ r8set .c v s = .ok { s with bc := join s.B v } ∧
      r8set .d v s = .ok { s with de := join v s.E } ∧ r8set .e v s = .ok { s with de := join s.D v } ∧
      r8set .h v s = .ok { s with hl := join v s.L } ∧ r8set .l v s = .ok { s with hl := join s.H v } ∧
      r8set .atHL v s = busWrite s.hl v s ∧
      ∃ t, r8set .a v s = .ok t ∧ t = { s with af := t.af } ∧ t.A = v ∧ t.F = s.F

/-- 30_encoding.md R116, R117, R118: the pairs the three 2-bit selectors name, and the address and the HL change of the
memory selector. -/
def Obligations.PairOperands : Prop :=
  (r16Of 0 = .bc ∧ r16Of 1 = .de ∧ r16Of 2 = .hl ∧ r16Of 3 = .sp) ∧
  (r16StkOf 0 = .bc ∧ r16StkOf 1 = .de ∧ r16StkOf 2 = .hl ∧ r16StkOf 3 = .af) ∧
  (r16MemOf 0 = .bc ∧ r16MemOf 1 = .de ∧ r16MemOf 2 = .hlInc ∧ r16MemOf 3 = .hlDec) ∧
  ∀ s : State,
    (r16get .bc s = s.bc ∧ r16get .de s = s.de ∧ r16get .hl s = s.hl ∧ r16get .sp s = s.sp) ∧
      (r16stkGet .bc s = s.bc ∧ r16stkGet .de s = s.de ∧ r16stkGet .hl s = s.hl ∧ r16stkGet .af s = s.AF) ∧
      (∀ v, r16set .bc v s = { s with bc := v } ∧ r16set .de v s = { s with de := v } ∧
        r16set .hl v s = { s with hl := v } ∧ r16set .sp v s = { s with sp := v }) ∧
      (∀ v, r16stkSet .bc v s = { s with bc := v } ∧ r16stkSet .de v s = { s with de := v } ∧
        r16stkSet .hl v s = { s with hl := v } ∧ r16stkSet .af v s = { s with af := v &&& 0xFFF0 }) ∧
      (r16mem .bc s = (s.bc, s) ∧ r16mem .de s = (s.de, s) ∧ r16mem .hlInc s = (s.hl, { s with hl := s.hl + 1 }) ∧
        r16mem .hlDec s = (s.hl, { s with hl := s.hl - 1 }))

/-- 30_encoding.md R119: the four conditions against Zero and Carry. -/
def Obligations.Conditions : Prop :=
  (condOf 0 = .nz ∧ condOf 1 = .z ∧ condOf 2 = .nc ∧ condOf 3 = .c) ∧
  ∀ s : State,
    (s.holds .nz = true ↔ s.fZ = false) ∧ (s.holds .z = true ↔ s.fZ = true) ∧
      (s.holds .nc = true ↔ s.fC = false) ∧ (s.holds .c = true ↔ s.fC = true)

/-- 41_alu8.md R190, R191: the sum and the difference are exact with the carry as a ninth bit, the half carry is the carry
or borrow that enters bit 4, and Z says the byte is zero. -/
def Obligations.AddAndSubtractExact : Prop :=
  ∀ (a b : Byte) (cin : Bool),
    ((add8 a b cin).r.toNat + 256 * (add8 a b cin).c.toNat = a.toNat + b.toNat + cin.toNat ∧
      (add8 a b cin).h = ((a ^^^ b ^^^ (add8 a b cin).r).getLsbD 4) ∧
      ((add8 a b cin).z = true ↔ (add8 a b cin).r = 0) ∧ (add8 a b cin).n = false) ∧
    ((sub8 a b cin).r.toNat + b.toNat + cin.toNat = a.toNat + 256 * (sub8 a b cin).c.toNat ∧
      (sub8 a b cin).h = ((a ^^^ b ^^^ (sub8 a b cin).r).getLsbD 4) ∧
      ((sub8 a b cin).z = true ↔ (sub8 a b cin).r = 0) ∧ (sub8 a b cin).n = true)

/-- What 41_alu8.md R222 is for (with R190, R191, R193): in the immediate forms, DAA after ADD or ADC of two decimal bytes
gives the decimal sum and its carry, and after SUB or SBC the decimal difference and its borrow. -/
def Obligations.DaaGivesDecimal : Prop :=
  ∀ (x y : Nat) (s : State), x < 100 → y < 100 → s.A = bcd x →
    (∃ t u, exec (mkAluImm .add (bcd y)) s = .next t ∧ exec .daa t = .next u ∧
      u.A = bcd ((x + y) % 100) ∧ u.fC = decide (100 ≤ x + y)) ∧
    (∃ t u, exec (mkAluImm .adc (bcd y)) s = .next t ∧ exec .daa t = .next u ∧
      u.A = bcd ((x + y + s.fC.toNat) % 100) ∧ u.fC = decide (100 ≤ x + y + s.fC.toNat)) ∧
    (∃ t u, exec (mkAluImm .sub (bcd y)) s = .next t ∧ exec .daa t = .next u ∧
      u.A = bcd ((x + 100 - y) % 100) ∧ u.fC = decide (x < y)) ∧
    (∃ t u, exec (mkAluImm .sbc (bcd y)) s = .next t ∧ exec .daa t = .next u ∧
      u.A = bcd ((x + 100 - y - s.fC.toNat) % 100) ∧ u.fC = decide (x < y + s.fC.toNat))

/-! ### Loads -/

/-- 40_loads.md R150, R151, R152: `LD dst,src` for every pair of operands but the place of HALT. -/
def Obligations.LoadByteForms : Prop :=
  ∀ (dst src : R8) (s : State), ¬(dst = .atHL ∧ src = .atHL) →
    (∀ (v : Byte) (s1 s2 : State), r8get src s = .ok (v, s1) → r8set dst v s1 = .ok s2 →
      exec (mkLd dst src) s = .next { s2 with cycles := if dst = .atHL ∨ src = .atHL then 2 else 1 }) ∧
    (∀ f, r8get src s = .error f → exec (mkLd dst src) s = .fault f) ∧
    (∀ (v : Byte) (s1 : State) (f : Fault), r8get src s = .ok (v, s1) → r8set dst v s1 = .error f →
      exec (mkLd dst src) s = .fault f) ∧
    encode (mkLd dst src) = [BitVec.ofNat 8 (0x40 + 8 * r8Ix dst + r8Ix src)]

/-- 40_loads.md R153, R154: `LD dst,n8`. -/
def Obligations.LoadImmediateForms : Prop :=
  ∀ (dst : R8) (n : Byte) (s : State),
    (∀ s1, r8set dst n s = .ok s1 →
      exec (mkLdImm dst n) s = .next { s1 with cycles := if dst = .atHL then 3 else 2 }) ∧
    (∀ f, r8set dst n s = .error f → exec (mkLdImm dst n) s = .fault f) ∧
    encode (mkLdImm dst n) = [BitVec.ofNat 8 (0x06 + 8 * r8Ix dst), n]

/-- 40_loads.md R155, R156: `LD [r16mem],A` and `LD A,[r16mem]`; the HL forms use the old HL and leave it one up or down. -/
def Obligations.IndirectLoads : Prop :=
  ∀ (m : R16Mem) (s : State),
    let addr := (r16mem m s).1
    let newHL := match m with
      | .bc => s.hl
      | .de => s.hl
      | .hlInc => s.hl + 1
      | .hlDec => s.hl - 1
    (∀ t, busWrite addr s.A s = .ok t → exec (mkStoreMem m) s = .next { t with hl := newHL, cycles := 2 }) ∧
    (∀ f, busWrite addr s.A s = .error f → exec (mkStoreMem m) s = .fault f) ∧
    (∀ (v : Byte) (t : State), busRead addr s = .ok (v, t) →
      ∃ u, exec (mkLoadMem m) s = .next u ∧ u = { t with af := u.af, hl := newHL, cycles := 2 } ∧ u.A = v ∧
        u.F = s.F) ∧
    (∀ f, busRead addr s = .error f → exec (mkLoadMem m) s = .fault f) ∧
    encode (mkStoreMem m) = [BitVec.ofNat 8 (0x02 + 16 * r16MemIx m)] ∧
    encode (mkLoadMem m) = [BitVec.ofNat 8 (0x0A + 16 * r16MemIx m)]

/-- 40_loads.md R157 to R162: the loads and stores of A at a direct address, and at the page 0xFF00 with the offset n8 or
C. -/
def Obligations.DirectAndHighLoads : Prop :=
  ∀ (n : Word) (k : Byte) (s : State),
    let high := BitVec.ofNat 16 (0xFF00 + k.toNat)
    let highC := BitVec.ofNat 16 (0xFF00 + s.C.toNat)
    (storesA (.ld_atn16_A n) n 4 s ∧ encode (.ld_atn16_A n) = [0xEA, loByte n, hiByte n]) ∧
    (loadsA (.ld_A_atn16 n) n 4 s ∧ encode (.ld_A_atn16 n) = [0xFA, loByte n, hiByte n]) ∧
    (storesA (.ldh_atn8_A k) high 3 s ∧ encode (.ldh_atn8_A k) = [0xE0, k]) ∧
    (loadsA (.ldh_A_atn8 k) high 3 s ∧ encode (.ldh_A_atn8 k) = [0xF0, k]) ∧
    (storesA .ldh_atC_A highC 2 s ∧ encode .ldh_atC_A = [0xE2]) ∧
    (loadsA .ldh_A_atC highC 2 s ∧ encode .ldh_A_atC = [0xF2])

/-- 40_loads.md R163, 44_stack.md R294: `LD r16,n16` and `LD SP,HL`. -/
def Obligations.LoadPairForms : Prop :=
  (∀ (rp : R16) (n : Word) (s : State),
    exec (mkLdR16 rp n) s = .next { r16set rp n s with cycles := 3 } ∧
      encode (mkLdR16 rp n) = [BitVec.ofNat 8 (0x01 + 16 * r16Ix rp), loByte n, hiByte n]) ∧
  ∀ s : State, exec .ld_SP_HL s = .next { s with sp := s.hl, cycles := 2 } ∧ encode .ld_SP_HL = [0xF9]

/-! ### 8-bit arithmetic and logic -/

/-- 41_alu8.md R194, R195, R197, R198, R200, R201, R203, R204, R215, R216: ADD, ADC, SUB, SBC and CP with a register or
`[HL]`. -/
def Obligations.AluArithmeticForms : Prop :=
  ∀ (src : R8) (s : State),
    (∀ (v : Byte) (s1 : State), r8get src s = .ok (v, s1) →
      let a := s.A.toNat
      let b := v.toNat
      let c := s.fC.toNat
      let count := if src = .atHL then 2 else 1
      (∃ t, exec (mkAlu .add src) s = .next t ∧ t = { s1 with af := t.af, cycles := count } ∧
        t.A = BitVec.ofNat 8 (a + b) ∧
        t.flagsAre (t.A == 0) false (decide (15 < a % 16 + b % 16)) (decide (255 < a + b))) ∧
      (∃ t, exec (mkAlu .adc src) s = .next t ∧ t = { s1 with af := t.af, cycles := count } ∧
        t.A = BitVec.ofNat 8 (a + b + c) ∧
        t.flagsAre (t.A == 0) false (decide (15 < a % 16 + b % 16 + c)) (decide (255 < a + b + c))) ∧
      (∃ t, exec (mkAlu .sub src) s = .next t ∧ t = { s1 with af := t.af, cycles := count } ∧
        t.A = BitVec.ofNat 8 (a + 256 - b) ∧
        t.flagsAre (t.A == 0) true (decide (a % 16 < b % 16)) (decide (a < b))) ∧
      (∃ t, exec (mkAlu .sbc src) s = .next t ∧ t = { s1 with af := t.af, cycles := count } ∧
        t.A = BitVec.ofNat 8 (a + 256 - b - c) ∧
        t.flagsAre (t.A == 0) true (decide (a % 16 < b % 16 + c)) (decide (a < b + c))) ∧
      ∃ t, exec (mkAlu .cp src) s = .next t ∧ t = { s1 with af := t.af, cycles := count } ∧
        t.A = s.A ∧ t.flagsAre (decide (a = b)) true (decide (a % 16 < b % 16)) (decide (a < b))) ∧
    ∀ op ∈ [AluOp.add, .adc, .sub, .sbc, .cp],
      (∀ f, r8get src s = .error f → exec (mkAlu op src) s = .fault f) ∧
        encode (mkAlu op src) = [BitVec.ofNat 8 (0x80 + 8 * aluOpIx op + r8Ix src)]

/-- 41_alu8.md R192, R206, R207, R209, R210, R212, R213: AND, XOR and OR with a register or `[HL]`. -/
def Obligations.AluLogicForms : Prop :=
  ∀ (src : R8) (s : State),
    (∀ (v : Byte) (s1 : State), r8get src s = .ok (v, s1) →
      let count := if src = .atHL then 2 else 1
      (∃ t, exec (mkAlu .and src) s = .next t ∧ t = { s1 with af := t.af, cycles := count } ∧
        (∀ i, i < 8 → t.A.getLsbD i = (s.A.getLsbD i && v.getLsbD i)) ∧ t.flagsAre (t.A == 0) false true false) ∧
      (∃ t, exec (mkAlu .xor src) s = .next t ∧ t = { s1 with af := t.af, cycles := count } ∧
        (∀ i, i < 8 → t.A.getLsbD i = (s.A.getLsbD i != v.getLsbD i)) ∧ t.flagsAre (t.A == 0) false false false) ∧
      ∃ t, exec (mkAlu .or src) s = .next t ∧ t = { s1 with af := t.af, cycles := count } ∧
        (∀ i, i < 8 → t.A.getLsbD i = (s.A.getLsbD i || v.getLsbD i)) ∧ t.flagsAre (t.A == 0) false false false) ∧
    ∀ op ∈ [AluOp.and, .xor, .or],
      (∀ f, r8get src s = .error f → exec (mkAlu op src) s = .fault f) ∧
        encode (mkAlu op src) = [BitVec.ofNat 8 (0x80 + 8 * aluOpIx op + r8Ix src)]

/-- 41_alu8.md R193, R196, R199, R202, R205, R208, R211, R214, R217: the eight operations with an immediate, whose bytes
the fetch has read (log 9): from every state they complete. -/
def Obligations.AluImmediateForms : Prop :=
  ∀ (op : AluOp) (n : Byte) (s : State),
    let a := s.A.toNat
    let b := n.toNat
    let c := s.fC.toNat
    (∃ t, exec (mkAluImm op n) s = .next t ∧ t = { s with af := t.af, cycles := 2 } ∧
      match op with
        | .add => t.A = BitVec.ofNat 8 (a + b) ∧
          t.flagsAre (t.A == 0) false (decide (15 < a % 16 + b % 16)) (decide (255 < a + b))
        | .adc => t.A = BitVec.ofNat 8 (a + b + c) ∧
          t.flagsAre (t.A == 0) false (decide (15 < a % 16 + b % 16 + c)) (decide (255 < a + b + c))
        | .sub => t.A = BitVec.ofNat 8 (a + 256 - b) ∧
          t.flagsAre (t.A == 0) true (decide (a % 16 < b % 16)) (decide (a < b))
        | .sbc => t.A = BitVec.ofNat 8 (a + 256 - b - c) ∧
          t.flagsAre (t.A == 0) true (decide (a % 16 < b % 16 + c)) (decide (a < b + c))
        | .and => (∀ i, i < 8 → t.A.getLsbD i = (s.A.getLsbD i && n.getLsbD i)) ∧ t.flagsAre (t.A == 0) false true false
        | .xor => (∀ i, i < 8 → t.A.getLsbD i = (s.A.getLsbD i != n.getLsbD i)) ∧ t.flagsAre (t.A == 0) false false false
        | .or => (∀ i, i < 8 → t.A.getLsbD i = (s.A.getLsbD i || n.getLsbD i)) ∧ t.flagsAre (t.A == 0) false false false
        | .cp => t.A = s.A ∧ t.flagsAre (decide (a = b)) true (decide (a % 16 < b % 16)) (decide (a < b))) ∧
    encode (mkAluImm op n) = [BitVec.ofNat 8 (0xC6 + 8 * aluOpIx op), n]

/-- 41_alu8.md R218, R219, R220, R221: INC and DEC of a register or `[HL]`, which leave the carry. -/
def Obligations.IncDecByteForms : Prop :=
  ∀ (r : R8) (s : State),
    (∀ (v : Byte) (s1 s2 : State), r8get r s = .ok (v, s1) → r8set r (v + 1) s1 = .ok s2 →
      ∃ t, exec (mkInc8 r) s = .next t ∧ t = { s2 with af := t.af, cycles := if r = .atHL then 3 else 1 } ∧
        t.A = s2.A ∧ t.flagsAre (decide (v.toNat = 255)) false (decide (v.toNat % 16 = 15)) s.fC) ∧
    (∀ (v : Byte) (s1 s2 : State), r8get r s = .ok (v, s1) → r8set r (v - 1) s1 = .ok s2 →
      ∃ t, exec (mkDec8 r) s = .next t ∧ t = { s2 with af := t.af, cycles := if r = .atHL then 3 else 1 } ∧
        t.A = s2.A ∧ t.flagsAre (decide (v.toNat = 1)) true (decide (v.toNat % 16 = 0)) s.fC) ∧
    (∀ f, r8get r s = .error f → exec (mkInc8 r) s = .fault f ∧ exec (mkDec8 r) s = .fault f) ∧
    (∀ (v : Byte) (s1 : State) (f : Fault), r8get r s = .ok (v, s1) →
      (r8set r (v + 1) s1 = .error f → exec (mkInc8 r) s = .fault f) ∧
        (r8set r (v - 1) s1 = .error f → exec (mkDec8 r) s = .fault f)) ∧
    encode (mkInc8 r) = [BitVec.ofNat 8 (0x04 + 8 * r8Ix r)] ∧ encode (mkDec8 r) = [BitVec.ofNat 8 (0x05 + 8 * r8Ix r)]

/-- 41_alu8.md R222: DAA, after an addition (fN = 0) and after a subtraction. -/
def Obligations.DaaForm : Prop :=
  encode .daa = [0x27] ∧
  ∀ s : State, ∃ t, exec .daa s = .next t ∧ t = { s with af := t.af, cycles := 1 } ∧
    (s.fN = false →
      let high := s.fC = true ∨ 0x99 < s.A.toNat
      let low := s.fH = true ∨ 9 < s.A.toNat % 16
      t.flagsAre (t.A == 0) false false (decide high) ∧
        t.A = BitVec.ofNat 8 (s.A.toNat + (if high then 0x60 else 0) + (if low then 0x06 else 0))) ∧
    (s.fN = true →
      t.flagsAre (t.A == 0) true false s.fC ∧
        t.A = BitVec.ofNat 8 (s.A.toNat + 0x200 - (if s.fC = true then 0x60 else 0) - (if s.fH = true then 0x06 else 0)))

/-- 41_alu8.md R223, R224, R225: CPL, SCF and CCF, which leave Z. -/
def Obligations.ComplementAndCarryForms : Prop :=
  (encode .cpl = [0x2F] ∧ encode .scf = [0x37] ∧ encode .ccf = [0x3F]) ∧
  ∀ s : State,
    (∃ t, exec .cpl s = .next t ∧ t = { s with af := t.af, cycles := 1 } ∧ t.A = ~~~s.A ∧
      t.flagsAre s.fZ true true s.fC) ∧
    (∃ t, exec .scf s = .next t ∧ t = { s with af := t.af, cycles := 1 } ∧ t.A = s.A ∧
      t.flagsAre s.fZ false false true) ∧
    ∃ t, exec .ccf s = .next t ∧ t = { s with af := t.af, cycles := 1 } ∧ t.A = s.A ∧
      t.flagsAre s.fZ false false (!s.fC)

/-! ### 16-bit arithmetic -/

/-- 42_alu16.md R240, R241: INC and DEC of a pair, modulo 2^16, with no flag written. -/
def Obligations.IncDecPairForms : Prop :=
  ∀ (rp : R16) (s : State),
    exec (mkIncR16 rp) s = .next { r16set rp (BitVec.ofNat 16 ((r16get rp s).toNat + 1)) s with cycles := 2 } ∧
      exec (mkDecR16 rp) s = .next { r16set rp (BitVec.ofNat 16 ((r16get rp s).toNat + 0xFFFF)) s with cycles := 2 } ∧
      encode (mkIncR16 rp) = [BitVec.ofNat 8 (0x03 + 16 * r16Ix rp)] ∧
      encode (mkDecR16 rp) = [BitVec.ofNat 8 (0x0B + 16 * r16Ix rp)]

/-- 42_alu16.md R242: ADD HL with a pair, with the carries out of bits 11 and 15, Z kept. -/
def Obligations.AddHLForms : Prop :=
  ∀ (rp : R16) (s : State),
    let a := s.hl.toNat
    let b := (r16get rp s).toNat
    (∃ t, exec (mkAddHL rp) s = .next t ∧ t = { s with af := t.af, hl := BitVec.ofNat 16 (a + b), cycles := 2 } ∧
      t.A = s.A ∧
      t.flagsAre s.fZ false (decide (0x0FFF < a % 0x1000 + b % 0x1000)) (decide (0xFFFF < a + b))) ∧
    encode (mkAddHL rp) = [BitVec.ofNat 8 (0x09 + 16 * r16Ix rp)]

/-! ### Jumps, calls, returns -/

/-- 43_jumps.md R260, R261, R262, R263, R264: the jumps, taken and not taken; a relative jump adds the signed displacement
to the address after the instruction, modulo 2^16. -/
def Obligations.JumpForms : Prop :=
  ∀ (s : State) (n : Word) (e : Byte) (cc : Cond),
    let rel := BitVec.ofInt 16 (s.pc.toNat + e.toInt)
    (exec (.jp_n16 n) s = .next { s with pc := n, cycles := 4 } ∧ encode (.jp_n16 n) = [0xC3, loByte n, hiByte n]) ∧
    (exec (mkJpIf cc n) s =
        .next (if s.holds cc = true then { s with pc := n, cycles := 4 } else { s with cycles := 3 }) ∧
      encode (mkJpIf cc n) = [BitVec.ofNat 8 (0xC2 + 8 * condIx cc), loByte n, hiByte n]) ∧
    (exec .jp_HL s = .next { s with pc := s.hl, cycles := 1 } ∧ encode .jp_HL = [0xE9]) ∧
    (exec (.jr_e8 e) s = .next { s with pc := rel, cycles := 3 } ∧ encode (.jr_e8 e) = [0x18, e]) ∧
    (exec (mkJrIf cc e) s =
        .next (if s.holds cc = true then { s with pc := rel, cycles := 3 } else { s with cycles := 2 }) ∧
      encode (mkJrIf cc e) = [BitVec.ofNat 8 (0x20 + 8 * condIx cc), e])

/-- 43_jumps.md R265, R266, R270: CALL, CALL on a condition and RST push the address after the instruction, high byte at
SP - 1 and low byte at SP - 2, and jump. -/
def Obligations.CallForms : Prop :=
  ∀ (s : State) (n : Word) (cc : Cond) (k : Ix3),
    (∀ s2, pushWrites s.pc s = .ok s2 →
      exec (.call_n16 n) s = .next { s2 with sp := s.sp - 2, pc := n, cycles := 6 } ∧
        (s.holds cc = true → exec (mkCallIf cc n) s = .next { s2 with sp := s.sp - 2, pc := n, cycles := 6 }) ∧
        exec (mkRst k) s = .next { s2 with sp := s.sp - 2, pc := BitVec.ofNat 16 (8 * ix3Val k), cycles := 4 }) ∧
    (∀ f, pushWrites s.pc s = .error f →
      exec (.call_n16 n) s = .fault f ∧ (s.holds cc = true → exec (mkCallIf cc n) s = .fault f) ∧
        exec (mkRst k) s = .fault f) ∧
    (s.holds cc = false → exec (mkCallIf cc n) s = .next { s with cycles := 3 }) ∧
    (encode (.call_n16 n) = [0xCD, loByte n, hiByte n] ∧
      encode (mkCallIf cc n) = [BitVec.ofNat 8 (0xC4 + 8 * condIx cc), loByte n, hiByte n] ∧
      encode (mkRst k) = [BitVec.ofNat 8 (0xC7 + 8 * ix3Val k)])

/-- 43_jumps.md R267, R268, R269, 60_exceptions.md R386: RET, RET on a condition and RETI pop PC, low byte first; RETI also
sets IME at once. -/
def Obligations.ReturnForms : Prop :=
  ∀ (s : State) (cc : Cond),
    (∀ (w : Word) (s2 : State), popReads s = .ok (w, s2) →
      exec .ret s = .next { s2 with sp := s.sp + 2, pc := w, cycles := 4 } ∧
        (s.holds cc = true → exec (mkRetIf cc) s = .next { s2 with sp := s.sp + 2, pc := w, cycles := 5 }) ∧
        exec .reti s = .next { s2 with sp := s.sp + 2, pc := w, ime := true, cycles := 4 }) ∧
    (∀ f, popReads s = .error f →
      exec .ret s = .fault f ∧ (s.holds cc = true → exec (mkRetIf cc) s = .fault f) ∧ exec .reti s = .fault f) ∧
    (s.holds cc = false → exec (mkRetIf cc) s = .next { s with cycles := 2 }) ∧
    (encode .ret = [0xC9] ∧ encode (mkRetIf cc) = [BitVec.ofNat 8 (0xC0 + 8 * condIx cc)] ∧ encode .reti = [0xD9])

/-! ### The stack -/

/-- 44_stack.md R291, R292: PUSH and POP of the four stack pairs; a push of AF stores F with bits 3..0 zero, and a pop of AF
keeps bits 7..4 of the low byte. -/
def Obligations.PushPopForms : Prop :=
  ∀ (rs : R16Stk) (s : State),
    (∀ s2, pushWrites (r16stkGet rs s) s = .ok s2 → exec (mkPush rs) s = .next { s2 with sp := s.sp - 2, cycles := 4 }) ∧
    (∀ f, pushWrites (r16stkGet rs s) s = .error f → exec (mkPush rs) s = .fault f) ∧
    (∀ (w : Word) (s2 : State), popReads s = .ok (w, s2) →
      exec (mkPop rs) s = .next (match rs with
        | .bc => { s2 with bc := w, sp := s.sp + 2, cycles := 3 }
        | .de => { s2 with de := w, sp := s.sp + 2, cycles := 3 }
        | .hl => { s2 with hl := w, sp := s.sp + 2, cycles := 3 }
        | .af => { s2 with af := w &&& 0xFFF0, sp := s.sp + 2, cycles := 3 })) ∧
    (∀ f, popReads s = .error f → exec (mkPop rs) s = .fault f) ∧
    encode (mkPush rs) = [BitVec.ofNat 8 (0xC5 + 16 * r16StkIx rs)] ∧
    encode (mkPop rs) = [BitVec.ofNat 8 (0xC1 + 16 * r16StkIx rs)]

/-- 44_stack.md R290, R293, R295, R296: the store of SP, low byte first, and the two sums of SP and a signed displacement,
whose flags come from the unsigned addition of the low bytes. -/
def Obligations.StackPointerForms : Prop :=
  ∀ (s : State) (n : Word) (e : Byte),
    let sum := BitVec.ofInt 16 (s.sp.toNat + e.toInt)
    let half := decide (15 < s.sp.toNat % 16 + e.toNat % 16)
    let carry := decide (255 < s.sp.toNat % 256 + e.toNat)
    (∀ s1 s2, busWrite n (loByte s.sp) s = .ok s1 → busWrite (n + 1) (hiByte s.sp) s1 = .ok s2 →
      exec (.ld_atn16_SP n) s = .next { s2 with cycles := 5 }) ∧
    (∀ f, busWrite n (loByte s.sp) s = .error f → exec (.ld_atn16_SP n) s = .fault f) ∧
    (∀ s1 f, busWrite n (loByte s.sp) s = .ok s1 → busWrite (n + 1) (hiByte s.sp) s1 = .error f →
      exec (.ld_atn16_SP n) s = .fault f) ∧
    (∃ t, exec (.add_SP_e8 e) s = .next t ∧ t = { s with af := t.af, sp := sum, cycles := 4 } ∧ t.A = s.A ∧
      t.flagsAre false false half carry) ∧
    (∃ t, exec (.ld_HL_SPe8 e) s = .next t ∧ t = { s with af := t.af, hl := sum, cycles := 3 } ∧ t.A = s.A ∧
      t.flagsAre false false half carry) ∧
    (encode (.ld_atn16_SP n) = [0x08, loByte n, hiByte n] ∧ encode (.add_SP_e8 e) = [0xE8, e] ∧
      encode (.ld_HL_SPe8 e) = [0xF8, e])

/-! ### Rotates, shifts, bits -/

/-- 45_bitops.md R310 to R313: the rotates of A, which always clear Z. -/
def Obligations.AccumulatorRotates : Prop :=
  (encode .rlca = [0x07] ∧ encode .rrca = [0x0F] ∧ encode .rla = [0x17] ∧ encode .rra = [0x1F]) ∧
  ∀ s : State,
    (∃ t, exec .rlca s = .next t ∧ t = { s with af := t.af, cycles := 1 } ∧
      t.A.toNat = (2 * s.A.toNat + s.A.toNat / 128) % 256 ∧ t.flagsAre false false false (decide (128 ≤ s.A.toNat))) ∧
    (∃ t, exec .rrca s = .next t ∧ t = { s with af := t.af, cycles := 1 } ∧
      t.A.toNat = s.A.toNat / 2 + 128 * (s.A.toNat % 2) ∧
      t.flagsAre false false false (decide (s.A.toNat % 2 = 1))) ∧
    (∃ t, exec .rla s = .next t ∧ t = { s with af := t.af, cycles := 1 } ∧
      t.A.toNat = (2 * s.A.toNat + s.fC.toNat) % 256 ∧ t.flagsAre false false false (decide (128 ≤ s.A.toNat))) ∧
    ∃ t, exec .rra s = .next t ∧ t = { s with af := t.af, cycles := 1 } ∧
      t.A.toNat = s.A.toNat / 2 + 128 * s.fC.toNat ∧ t.flagsAre false false false (decide (s.A.toNat % 2 = 1))

/-- 45_bitops.md R314, R315, R317, R319, R321, R323, R325, R327, R329: the rotates, shifts and SWAP of a register. -/
def Obligations.RotateRegisterForms : Prop :=
  ∀ (k : RotOp) (r : R8) (s s2 : State) (v res : Byte) (c : Bool), r ≠ .atHL →
    r8get r s = .ok (v, s) → rotateIs k v s.fC res c → r8set r res s = .ok s2 →
    (∃ t, exec (mkRot k r) s = .next t ∧ t = { s2 with af := t.af, cycles := 2 } ∧ t.A = s2.A ∧
      t.flagsAre (decide (res = 0)) false false c) ∧
    encode (mkRot k r) = [0xCB, BitVec.ofNat 8 (8 * rotOpIx k + r8Ix r)]

/-- 45_bitops.md R314, R316, R318, R320, R322, R324, R326, R328, R330: the same of the byte at HL, one read and one write
of the same address. -/
def Obligations.RotateMemoryForms : Prop :=
  ∀ (k : RotOp) (s : State),
    (∀ (s1 s2 : State) (v res : Byte) (c : Bool), busRead s.hl s = .ok (v, s1) → rotateIs k v s.fC res c →
      busWrite s.hl res s1 = .ok s2 →
      ∃ t, exec (mkRot k .atHL) s = .next t ∧ t = { s2 with af := t.af, cycles := 4 } ∧ t.A = s.A ∧
        t.flagsAre (decide (res = 0)) false false c) ∧
    (∀ f, busRead s.hl s = .error f → exec (mkRot k .atHL) s = .fault f) ∧
    (∀ (s1 : State) (v res : Byte) (c : Bool) (f : Fault), busRead s.hl s = .ok (v, s1) → rotateIs k v s.fC res c →
      busWrite s.hl res s1 = .error f → exec (mkRot k .atHL) s = .fault f) ∧
    encode (mkRot k .atHL) = [0xCB, BitVec.ofNat 8 (8 * rotOpIx k + 6)]

/-- 45_bitops.md R331, R332: BIT, which writes no operand and keeps the carry. -/
def Obligations.BitTestForms : Prop :=
  ∀ (b : Ix3) (r : R8) (s : State),
    (∀ (v : Byte) (s1 : State), r8get r s = .ok (v, s1) →
      ∃ t, exec (mkBit b r) s = .next t ∧ t = { s1 with af := t.af, cycles := if r = .atHL then 3 else 2 } ∧
        t.A = s.A ∧ t.flagsAre (!v.getLsbD (ix3Val b)) false true s.fC) ∧
    (∀ f, r8get r s = .error f → exec (mkBit b r) s = .fault f) ∧
    encode (mkBit b r) = [0xCB, BitVec.ofNat 8 (0x40 + 8 * ix3Val b + r8Ix r)]

/-- 45_bitops.md R333, R334, R335, R336: RES and SET change one bit of the operand and write no flag. -/
def Obligations.BitWriteForms : Prop :=
  ∀ (b : Ix3) (r : R8) (s : State),
    (∀ (v w : Byte) (s1 s2 : State), r8get r s = .ok (v, s1) → r8set r w s1 = .ok s2 →
      ((∀ i, i < 8 → w.getLsbD i = if i = ix3Val b then false else v.getLsbD i) →
        exec (mkRes b r) s = .next { s2 with cycles := if r = .atHL then 4 else 2 }) ∧
      ((∀ i, i < 8 → w.getLsbD i = if i = ix3Val b then true else v.getLsbD i) →
        exec (mkSet b r) s = .next { s2 with cycles := if r = .atHL then 4 else 2 })) ∧
    (∀ f, r8get r s = .error f → exec (mkRes b r) s = .fault f ∧ exec (mkSet b r) s = .fault f) ∧
    (∀ (v w : Byte) (s1 : State) (f : Fault), r8get r s = .ok (v, s1) → r8set r w s1 = .error f →
      ((∀ i, i < 8 → w.getLsbD i = if i = ix3Val b then false else v.getLsbD i) → exec (mkRes b r) s = .fault f) ∧
      ((∀ i, i < 8 → w.getLsbD i = if i = ix3Val b then true else v.getLsbD i) → exec (mkSet b r) s = .fault f)) ∧
    encode (mkRes b r) = [0xCB, BitVec.ofNat 8 (0x80 + 8 * ix3Val b + r8Ix r)] ∧
    encode (mkSet b r) = [0xCB, BitVec.ofNat 8 (0xC0 + 8 * ix3Val b + r8Ix r)]

/-- 30_encoding.md R127, R132: the prefix row means the second-page instruction its second byte names, and the two bytes
decode to that instruction, 0xCB 0xCB to SET 1,E; it completes for every register operand, and for `[HL]` where the read
and the write are accepted. That the row is a constructor beside the page's own is the model's (log 11). -/
def Obligations.PrefixRow : Prop :=
  (∀ (op2 : Byte) (s : State), exec (.prefix_CB op2) s = exec (decodeCB op2) s ∧
    decode [0xCB, op2] = .ok (decodeCB op2, []) ∧ WellFormed (decodeCB op2)) ∧
  (∀ (op2 : Byte) (s : State), op2.toNat % 8 ≠ 6 → ∃ t, exec (.prefix_CB op2) s = .next t) ∧
  (∀ (op2 : Byte) (s s1 : State) (v : Byte), op2.toNat % 8 = 6 → busRead s.hl s = .ok (v, s1) →
    (∀ w, ∃ s2, busWrite s.hl w s1 = .ok s2) → ∃ t, exec (.prefix_CB op2) s = .next t) ∧
  decode [0xCB, 0xCB] = .ok (.set_1_E, [])

/-! ### Control and interrupts -/

/-- 46_control.md R350, R351, R352: NOP, HALT and STOP, whose second byte is ignored. -/
def Obligations.ControlForms : Prop :=
  ∀ (s : State) (n : Byte),
    (exec .nop s = .next { s with cycles := 1 } ∧ encode .nop = [0x00]) ∧
    (exec .halt s = .next { s with halted := true, cycles := 1 } ∧ encode .halt = [0x76]) ∧
    (exec (.stop_n8 n) s = .next { s with halted := true, cycles := 1 } ∧ encode (.stop_n8 n) = [0x10, n])

/-- 46_control.md R353, R354: DI disables at once and cancels a pending enable; EI sets the pending enable alone. -/
def Obligations.InterruptSwitchForms : Prop :=
  ∀ s : State,
    (exec .di s = .next { s with ime := false, eiDelay := false, cycles := 1 } ∧ encode .di = [0xF3]) ∧
    (exec .ei s = .next { s with eiDelay := true, cycles := 1 } ∧ encode .ei = [0xFB])

/-- 60_exceptions.md R385, R387: over a step that runs an instruction, a pending enable takes effect at its end unless the
instruction is DI, and without one IME changes by DI and RETI alone and a pending enable comes from EI alone; an idle step
changes neither, and an interrupt entry clears both. -/
def Obligations.EnableDelay : Prop :=
  (∀ (s s1 t : State) (i : Instr), runsInstruction s → fetchInstr (s.setHalted false) = .ok (i, s1) →
    step s = .next t →
    (s.eiDelay = true → t.eiDelay = false ∧ (i = .di → t.ime = false) ∧ (i ≠ .di → t.ime = true)) ∧
    (s.eiDelay = false → (t.eiDelay = true ↔ i = .ei) ∧ (i = .di → t.ime = false) ∧ (i = .reti → t.ime = true) ∧
      (i ≠ .di → i ≠ .reti → t.ime = s.ime))) ∧
  (∀ s t : State, s.halted = true → irqPending s = .ok 0 → step s = .next t →
    t.ime = s.ime ∧ t.eiDelay = s.eiDelay) ∧
  ∀ (s t : State) (p : Byte), s.ime = true → irqPending s = .ok p → p ≠ 0 → step s = .next t →
    t.ime = false ∧ t.eiDelay = false

/-- 60_exceptions.md R378, R380, R382, R383, R384: when IME is set and an enabled interrupt is requested, the step takes the
lowest-numbered one: IME and the pending enable are cleared, PC is pushed, that bit of IF is cleared, and PC is the
vector. An access that fails ends the step with its error. -/
def Obligations.InterruptEntry : Prop :=
  (∀ (s : State) (e r : Byte), busPeek 0xFFFF s = .ok e → busPeek 0xFF0F s = .ok r →
    irqPending s = .ok (e &&& r &&& 0x1F)) ∧
  (∀ s : State, s.ime = false → s.halted = false → runsInstruction s) ∧
  ∀ (s : State) (p : Byte), s.ime = true → irqPending s = .ok p → p ≠ 0 →
    ∃ k, k < 5 ∧ p.getLsbD k = true ∧ (∀ j, j < k → p.getLsbD j = false) ∧
      (∀ (s1 s2 s3 : State) (v w : Byte), pushWrites s.pc s = .ok s1 → busRead 0xFF0F s1 = .ok (v, s2) →
        (∀ i, i < 8 → w.getLsbD i = if i = k then false else v.getLsbD i) → busWrite 0xFF0F w s2 = .ok s3 →
        step s = .next { s3 with ime := false, eiDelay := false, halted := false, sp := s.sp - 2,
                                 pc := BitVec.ofNat 16 (0x0040 + 8 * k), cycles := 5 }) ∧
      (∀ f, pushWrites s.pc s = .error f → step s = .fault f) ∧
      (∀ s1 f, pushWrites s.pc s = .ok s1 → busRead 0xFF0F s1 = .error f → step s = .fault f) ∧
      (∀ (s1 s2 : State) (v w : Byte) (f : Fault), pushWrites s.pc s = .ok s1 → busRead 0xFF0F s1 = .ok (v, s2) →
        (∀ i, i < 8 → w.getLsbD i = if i = k then false else v.getLsbD i) → busWrite 0xFF0F w s2 = .error f →
        step s = .fault f)

/-- 60_exceptions.md R381, R388, R393: while halted with no enabled interrupt requested, every call returns 1 and changes
nothing; with one requested, the step clears `halted` and does what the running machine would do, whatever IME is. That
it is so however often the call is made is the model's choice to let nothing outside write IE or IF between two steps
(DESIGN CHOICE, unsafe, log 15). -/
def Obligations.IdleAndWake : Prop :=
  (∀ s : State, s.halted = true → irqPending s = .ok 0 →
    step s = .next { s with cycles := 1 } ∧
      ∀ n, Host.Core.run Sys2Proof.core (n + 1) s = .next ({ s with cycles := 1 } : State)) ∧
  ∀ (s : State) (p : Byte), s.halted = true → irqPending s = .ok p → p ≠ 0 →
    step s = step { s with halted := false } ∧ (s.ime = false → runsInstruction s)

/-! ### What no other instruction changes -/

/-- 10_state.md R38: no instruction outside a register's row of the table changes that register. -/
def Obligations.RegisterWriters : Prop :=
  ∀ (i : Instr) (s t : State), WellFormed i → exec i s = .next t →
    (¬writesA i → t.A = s.A) ∧ (¬writesFlags i → t.F = s.F) ∧
    (¬writesByte .b i → ¬writesPair .bc .bc i → t.B = s.B) ∧ (¬writesByte .c i → ¬writesPair .bc .bc i → t.C = s.C) ∧
    (¬writesByte .d i → ¬writesPair .de .de i → t.D = s.D) ∧ (¬writesByte .e i → ¬writesPair .de .de i → t.E = s.E) ∧
    (¬writesByte .h i → ¬writesPair .hl .hl i → ¬writesHL i → t.H = s.H) ∧
    (¬writesByte .l i → ¬writesPair .hl .hl i → ¬writesHL i → t.L = s.L) ∧
    (¬writesSP i → t.sp = s.sp) ∧ (¬writesPC i → t.pc = s.pc)

/-- What a store changes, over all instructions (20_memory.md R90): a byte of storage changes only where the instruction
stores, in whatever bank; so every byte of a device that is not open reads as before unless it is one stored to, and no
instruction changes which devices are attached. -/
def Obligations.StoreFrame : Prop :=
  ∀ (i : Instr) (s t : State), WellFormed i → exec i s = .next t →
    (∀ k : Nat, (∀ a, storesAt i s a → k % 0x10000 ≠ echoFold a) → t.mem.read k = s.mem.read k) ∧
    (∀ b : Word, s.closed b → s.wramx = .fixed → (∀ a, storesAt i s a → echoFold b ≠ echoFold a) →
      readByte b t = readByte b s) ∧
    (t.cart = s.cart ∧ t.io = s.io ∧ t.video = s.video ∧ t.wramx = s.wramx)

end Statements
end

