-- ==== Sys2Proof/Laws/Memory.lean ====
section
/-! SUPPORT. The laws of storage: read after write, the other keys untouched, the canonical form kept, and equal reads
give equal storage. -/

namespace Sys2Proof.Machine

theorem Memory.above_trans {j k : Nat} {m : Memory} (hjk : j ≤ k) (h : Memory.above k m = true) :
    Memory.above j m = true := by
  simp only [Memory.above, List.all_eq_true, decide_eq_true_eq] at *
  exact fun e he => Nat.lt_of_le_of_lt hjk (h e he)

/-- A key below every listed key reads as unlisted. -/
theorem Memory.read_of_above {j k : Nat} {m : Memory} (hjk : j ≤ k) (h : Memory.above k m = true) :
    m.read j = Memory.unlisted := by
  induction m with
  | nil => rfl
  | cons e rest ih =>
    simp only [Memory.above, List.all_cons, Bool.and_eq_true, decide_eq_true_eq] at h
    simp only [Memory.read]
    rw [if_neg (by omega)]
    exact ih h.2

theorem Memory.above_write {j k : Nat} {m : Memory} {v : Byte} (hjk : j < k) (h : Memory.above j m = true) :
    Memory.above j (m.write k v) = true := by
  induction m with
  | nil => simp only [Memory.write]; split <;> simp [Memory.above, hjk]
  | cons e rest ih =>
    have h' := h
    simp only [Memory.above, List.all_cons, Bool.and_eq_true, decide_eq_true_eq] at h'
    have hr : Memory.above j rest = true := h'.2
    simp only [Memory.write]
    split
    · split
      · exact h
      · simp [Memory.above, hjk, h'.1]; simpa [Memory.above] using hr
    · split
      · split
        · exact hr
        · simp [Memory.above, hjk]; simpa [Memory.above] using hr
      · have := ih hr
        simp [Memory.above, h'.1]; simpa [Memory.above] using this

/-- A write keeps the canonical form. -/
theorem Memory.write_wf {k : Nat} {m : Memory} {v : Byte} (h : m.wf = true) : (m.write k v).wf = true := by
  induction m with
  | nil => simp only [Memory.write]; split <;> simp [Memory.wf, Memory.above, *]
  | cons e rest ih =>
    have h' := h
    simp only [Memory.wf, Bool.and_eq_true, decide_eq_true_eq] at h'
    simp only [Memory.write]
    split
    · rename_i hlt
      split
      · exact h
      · rename_i hv
        have habove : Memory.above k ((e.1, e.2) :: rest) = true := by
          have := Memory.above_trans (Nat.le_of_lt hlt) h'.1.2
          simp only [Memory.above, List.all_cons, Bool.and_eq_true, decide_eq_true_eq]
          exact ⟨hlt, this⟩
        simp only [Memory.wf, Bool.and_eq_true, decide_eq_true_eq]
        exact ⟨⟨hv, habove⟩, h'⟩
    · split
      · rename_i heq
        subst heq
        split
        · exact h'.2
        · rename_i hv
          simp only [Memory.wf, Bool.and_eq_true, decide_eq_true_eq]
          exact ⟨⟨hv, h'.1.2⟩, h'.2⟩
      · have := Memory.above_write (v := v) (show e.1 < k by omega) h'.1.2
        simp only [Memory.wf, Bool.and_eq_true, decide_eq_true_eq]
        exact ⟨⟨h'.1.1, this⟩, ih h'.2⟩

/-- A read after a write to the same key gives the byte written. -/
theorem Memory.read_write_same {k : Nat} {m : Memory} {v : Byte} (h : m.wf = true) : (m.write k v).read k = v := by
  induction m with
  | nil => simp only [Memory.write]; split <;> simp [Memory.read, *]
  | cons e rest ih =>
    simp only [Memory.wf, Bool.and_eq_true, decide_eq_true_eq] at h
    simp only [Memory.write]
    split
    · rename_i hlt
      split
      · rename_i hv
        simp only [Memory.read]
        rw [if_neg (by omega), Memory.read_of_above (Nat.le_of_lt hlt) h.1.2, hv]
      · simp [Memory.read]
    · split
      · rename_i heq
        split
        · rename_i hv
          rw [heq, Memory.read_of_above (Nat.le_refl _) h.1.2, hv]
        · simp [Memory.read]
      · rename_i h1 h2
        simp only [Memory.read]
        rw [if_neg h2]
        exact ih h.2

/-- A write leaves every other key alone. -/
theorem Memory.read_write_other {j k : Nat} {m : Memory} {v : Byte} (hjk : j ≠ k) :
    (m.write k v).read j = m.read j := by
  induction m with
  | nil => simp only [Memory.write]; split <;> simp [Memory.read, hjk]
  | cons e rest ih =>
    simp only [Memory.write]
    split
    · split
      · rfl
      · simp [Memory.read, hjk]
    · split
      · rename_i heq
        subst heq
        split <;> simp [Memory.read, hjk]
      · simp only [Memory.read]
        split
        · rfl
        · exact ih

/-- A write adds no key but its own. -/
theorem Memory.write_all {p : Nat → Bool} {k : Nat} {m : Memory} {v : Byte} (hk : p k = true)
    (h : m.all (fun e => p e.1) = true) : (m.write k v).all (fun e => p e.1) = true := by
  induction m with
  | nil => simp only [Memory.write]; split <;> simp [hk]
  | cons e rest ih =>
    have h' := h
    simp only [List.all_cons, Bool.and_eq_true] at h'
    simp only [Memory.write]
    split
    · split
      · exact h
      · simp only [List.all_cons, Bool.and_eq_true]; exact ⟨hk, h'⟩
    · split
      · split
        · exact h'.2
        · simp only [List.all_cons, Bool.and_eq_true]; exact ⟨hk, h'.2⟩
      · simp only [List.all_cons, Bool.and_eq_true]; exact ⟨h'.1, ih h'.2⟩

/-- Equal storage is equal data: two canonical lists with the same reads are the same list. -/
theorem Memory.eq_of_read_eq {m n : Memory} (hm : m.wf = true) (hn : n.wf = true)
    (h : ∀ k, m.read k = n.read k) : m = n := by
  induction m generalizing n with
  | nil =>
    cases n with
    | nil => rfl
    | cons e rest =>
      simp only [Memory.wf, Bool.and_eq_true, decide_eq_true_eq] at hn
      have := h e.1
      simp only [Memory.read, if_true] at this
      exact absurd this.symm hn.1.1
  | cons d m ih =>
    cases n with
    | nil =>
      simp only [Memory.wf, Bool.and_eq_true, decide_eq_true_eq] at hm
      have := h d.1
      simp only [Memory.read, if_true] at this
      exact absurd this hm.1.1
    | cons e n =>
      obtain ⟨dk, dv⟩ := d
      obtain ⟨ek, ev⟩ := e
      simp only [Memory.wf, Bool.and_eq_true, decide_eq_true_eq] at hm hn
      have hk : dk = ek := by
        rcases Nat.lt_trichotomy dk ek with hlt | heq | hgt
        · have := h dk
          simp only [Memory.read, if_true] at this
          rw [if_neg (by omega), Memory.read_of_above (Nat.le_of_lt hlt) hn.1.2] at this
          exact absurd this hm.1.1
        · exact heq
        · have := h ek
          simp only [Memory.read, if_true] at this
          rw [if_neg (by omega), Memory.read_of_above (Nat.le_of_lt hgt) hm.1.2] at this
          exact absurd this.symm hn.1.1
      subst hk
      have hv : dv = ev := by simpa [Memory.read] using h dk
      subst hv
      congr 1
      apply ih hm.2 hn.2
      intro k
      by_cases hkk : k = dk
      · rw [hkk, Memory.read_of_above (Nat.le_refl _) hm.1.2, Memory.read_of_above (Nat.le_refl _) hn.1.2]
      · simpa [Memory.read, hkk] using h k

end Sys2Proof.Machine
end

