-- ==== Sys2Proof/Laws/Bus.lean ====
section
/-! SUPPORT. The map and everything the three bus operations can do (20_memory.md). -/

namespace Sys2Proof.Machine

/-- The entries stand in the map in the order of their addresses and do not overlap (20_memory.md R73). -/
theorem memoryMap_disjoint : memoryMap.Pairwise fun e f => e.base + e.size ≤ f.base := by decide

/-- Each device stands once in the map (20_memory.md R72). -/
theorem memoryMap_device : ∀ e ∈ memoryMap, ∀ f ∈ memoryMap, e.device = f.device → e = f := by decide

/-- The base the map gives a device is the base of its storage keys (20_memory.md R72; log 7). -/
theorem deviceBase_entry : ∀ e ∈ memoryMap, deviceBase e.device = e.base := by decide

/-- In a map without overlaps the search stops at the entry whose range the address lies in (20_memory.md R74). -/
theorem firstEntry_of_mem {map : List MapEntry} (hd : map.Pairwise fun e f => e.base + e.size ≤ f.base) {e : MapEntry}
    (he : e ∈ map) {n : Nat} (hb : e.base ≤ n) (ht : n < e.base + e.size) : firstEntry map n = some e := by
  induction map with
  | nil => simp at he
  | cons f rest ih =>
    obtain ⟨hf, hr⟩ := List.pairwise_cons.mp hd
    rcases List.mem_cons.mp he with rfl | he
    · simp [firstEntry, MapEntry.holds, hb, ht]
    · have := hf e he
      rw [firstEntry, if_neg (by simp [MapEntry.holds]; omega), ih hr he]

/-- Every address lies in the range of some entry (20_memory.md R73, R75). -/
theorem exists_entry (a : Word) : ∃ e ∈ memoryMap, e.base ≤ a.toNat ∧ a.toNat < e.base + e.size := by
  have ha : a.toNat < 0x10000 := a.isLt
  apply Decidable.byContradiction
  intro hn
  simp only [memoryMap, List.exists_mem_cons_iff, List.not_mem_nil, false_and, exists_false, or_false] at hn
  omega

/-- The map has an entry for every address (20_memory.md R73, R75). -/
theorem dispatch_total (a : Word) : ∃ e, firstEntry memoryMap a.toNat = some e := by
  obtain ⟨e, he, hb, ht⟩ := exists_entry a
  exact ⟨e, firstEntry_of_mem memoryMap_disjoint he hb ht⟩

/-- Dispatch gives the device of the entry the address lies in, and the offset from its base (20_memory.md R74). -/
theorem dispatch_of_mem {d : MMDevice} {b z : Nat} (he : ⟨d, b, z⟩ ∈ memoryMap) {a : Word} (hb : b ≤ a.toNat)
    (ht : a.toNat < b + z) : dispatch a = (d, a.toNat - b) := by
  rw [dispatch, firstEntry_of_mem memoryMap_disjoint he hb ht]

/-- Dispatch inside the echo window. -/
theorem dispatch_echo {a : Word} (h : 0xE000 ≤ a.toNat ∧ a.toNat < 0xFE00) :
    dispatch a = (.echoRam, a.toNat - 0xE000) :=
  dispatch_of_mem (d := .echoRam) (z := 0x1E00) (by decide) h.1 h.2

/-- The echo window forwards to bank 0 below offset 0x1000 and to the switchable bank above (20_memory.md R79). -/
theorem resolve_of_echo {a : Word} (h : 0xE000 ≤ a.toNat ∧ a.toNat < 0xFE00) : resolve a =
    if a.toNat - 0xE000 < 0x1000 then (.workRam0, a.toNat - 0xE000) else (.workRamX, a.toNat - 0xE000 - 0x1000) := by
  simp only [resolve, dispatch_echo h]

/-- Outside the echo window the byte stands where dispatch sends it. -/
theorem dispatch_not_echo {a : Word} (h : ¬ (0xE000 ≤ a.toNat ∧ a.toNat < 0xFE00)) : resolve a = dispatch a := by
  obtain ⟨e, he, hb, ht⟩ := exists_entry a
  unfold resolve
  split
  · rename_i o ho
    rw [dispatch_of_mem he hb ht] at ho
    obtain rfl := memoryMap_device e he ⟨.echoRam, 0xE000, 0x1E00⟩ (by decide) (congrArg Prod.fst ho)
    exact absurd ⟨hb, ht⟩ h
  · rfl

/-- The device that holds a byte is never the echo window (20_memory.md R79). -/
theorem resolve_ne_echo (a : Word) : (resolve a).1 ≠ .echoRam := by
  unfold resolve
  split
  · split <;> simp
  · rename_i h
    intro hp
    exact h (dispatch a).2 (by rw [← hp])

/-- The bus address of a byte after the echo window is folded onto work RAM (20_memory.md R79). -/
theorem base_add_offset (a : Word) : deviceBase (resolve a).1 + (resolve a).2 =
    if 0xE000 ≤ a.toNat ∧ a.toNat < 0xFE00 then a.toNat - 0x2000 else a.toNat := by
  split
  · rename_i h
    rw [resolve_of_echo h]
    split <;> simp only [deviceBase] <;> omega
  · rename_i h
    obtain ⟨e, he, hb, ht⟩ := exists_entry a
    rw [dispatch_not_echo h, dispatch_of_mem he hb ht, deviceBase_entry e he]
    exact Nat.add_sub_cancel' hb

/-- The unusable window has no other device behind it (20_memory.md R78). -/
theorem resolve_unusable (a : Word) (h : 0xFEA0 ≤ a.toNat ∧ a.toNat < 0xFF00) : (resolve a).1 = .unusable := by
  rw [dispatch_not_echo (by omega), dispatch_of_mem (d := .unusable) (z := 0x60) (by decide) h.1 h.2]

/-- A storage key is a bus address after folding, some banks of 0x10000 above it (20_memory.md R79, R82; log 8). -/
theorem keyOf_eq (s : State) (a : Word) :
    ∃ b, s.keyOf a = (if 0xE000 ≤ a.toNat ∧ a.toNat < 0xFE00 then a.toNat - 0x2000 else a.toNat) + 0x10000 * b := by
  rw [← base_add_offset]
  unfold State.keyOf State.storageKey
  split
  · rename_i hw; exact ⟨s.wramxBankShown, by rw [hw]⟩
  · exact ⟨0, by omega⟩

/-- A storage key that a bus address can reach has storage, outside the unusable window. -/
theorem keyHasStorage_keyOf (s : State) (a : Word) (h : (resolve a).1 ≠ .unusable) :
    keyHasStorage (s.keyOf a) = true := by
  have ha : a.toNat < 0x10000 := a.isLt
  obtain ⟨b, hk⟩ := keyOf_eq s a
  have hu : ¬ (0xFEA0 ≤ a.toNat ∧ a.toNat < 0xFF00) := fun hx => h (resolve_unusable a hx)
  rw [hk]
  simp only [keyHasStorage, Bool.and_eq_true, Bool.not_eq_true', Bool.and_eq_false_iff, decide_eq_false_iff_not]
  generalize a.toNat = n at *
  rw [Nat.add_mul_mod_self_left]
  split <;> constructor <;> omega

/-- A storage key modulo 0x10000 is the folded bus address (20_memory.md R79, R82). -/
theorem keyOf_mod (s : State) (a : Word) : s.keyOf a % 0x10000 = echoFold a := by
  have ha : a.toNat < 0x10000 := a.isLt
  obtain ⟨b, hk⟩ := keyOf_eq s a
  rw [hk, Nat.add_mul_mod_self_left]
  unfold echoFold
  split <;> omega

/-- Through the echo window the byte is the one 0x2000 below (20_memory.md R79). -/
theorem resolve_echo {a : Word} (h : 0xE000 ≤ a.toNat ∧ a.toNat < 0xFE00) : resolve a = resolve (a - 0x2000) := by
  have e : (a - 0x2000).toNat = a.toNat - 0x2000 := by
    rw [BitVec.toNat_sub]; simp; omega
  rw [resolve_of_echo h, dispatch_not_echo (a := a - 0x2000) (by rw [e]; omega)]
  generalize a - 0x2000 = b at *
  generalize a.toNat = n at *
  split
  · rw [dispatch_of_mem (d := .workRam0) (b := 0xC000) (z := 0x1000) (by decide) (by omega) (by omega), e, Nat.sub_sub]
  · rw [dispatch_of_mem (d := .workRamX) (b := 0xD000) (z := 0x1000) (by decide) (by omega) (by omega), e, Nat.sub_sub,
      Nat.sub_sub]

/-- Everything an accepted `read` can do: it changes nothing but the state of the open devices. -/
theorem busRead_ok {a : Word} {s t : State} {v : Byte} (h : busRead a s = .ok (v, t)) :
    t = { s with ext := t.ext } := by
  unfold busRead at h
  split at h
  all_goals first
    | (cases h; rfl)
    | (split at h <;> cases h; rfl)

/-- A `read` that is not of an open device changes nothing. -/
theorem busRead_closed {a : Word} {s t : State} {v : Byte} (hx : s.accessOf a ≠ .external)
    (h : busRead a s = .ok (v, t)) : t = s := by
  unfold busRead at h
  split at h
  all_goals first
    | (cases h; rfl)
    | (split at h <;> cases h; rfl)
    | contradiction

/-- Everything an accepted `write` can do: it changes one byte of storage at most, that of the address written, and the
state of the open devices. -/
theorem busWrite_ok {a : Word} {v : Byte} {s t : State} (h : busWrite a v s = .ok t) :
    t = { s with mem := t.mem, ext := t.ext } ∧
      ((t.mem = s.mem) ∨ ((resolve a).1 ≠ .unusable ∧ ∃ w, t.mem = s.mem.write (s.keyOf a) w)) := by
  have hu : s.accessOf a ≠ .sentinel → (resolve a).1 ≠ .unusable := fun h hr => h (by rw [State.accessOf, hr]; rfl)
  unfold busWrite at h
  split at h
  · rename_i hx
    cases h; exact ⟨rfl, .inr ⟨hu (by rw [hx]; exact Access.noConfusion), _, rfl⟩⟩
  · cases h; exact ⟨rfl, .inl rfl⟩
  · cases h; exact ⟨rfl, .inl rfl⟩
  · rename_i ks hx
    split at h
    · cases h
    · cases h; exact ⟨rfl, .inr ⟨hu (by rw [hx]; exact Access.noConfusion), _, rfl⟩⟩
  · rename_i hx
    split at h
    · cases h; exact ⟨rfl, .inr ⟨hu (by rw [hx]; exact Access.noConfusion), _, rfl⟩⟩
    · cases h

/-- A write touches no key but that of the address written. -/
theorem busWrite_other {a : Word} {v : Byte} {s t : State} (h : busWrite a v s = .ok t) {k : Nat}
    (hk : k ≠ s.keyOf a) : t.mem.read k = s.mem.read k := by
  rcases (busWrite_ok h).2 with hm | ⟨-, w, hm⟩
  · rw [hm]
  · rw [hm, Memory.read_write_other hk]

/-- A write keeps the canonical form and puts no byte where no device stores one. -/
theorem busWrite_keeps {a : Word} {v : Byte} {s t : State} (h : busWrite a v s = .ok t) (hs : StateInv s) : StateInv t := by
  obtain ⟨hwf, hst, hf⟩ := hs
  obtain ⟨ht, hm⟩ := busWrite_ok h
  have haf : t.af = s.af := by rw [ht]
  refine ⟨?_, ?_, by simpa [State.flagsOk, haf] using hf⟩
  · rcases hm with hm | ⟨-, w, hm⟩ <;> rw [hm]
    · exact hwf
    · exact Memory.write_wf hwf
  · unfold State.storageOk at *
    rcases hm with hm | ⟨hu, w, hm⟩ <;> rw [hm]
    · exact hst
    · exact Memory.write_all (p := keyHasStorage) (keyHasStorage_keyOf s a hu) hst

/-- A read keeps the invariant. -/
theorem busRead_keeps {a : Word} {s t : State} {v : Byte} (h : busRead a s = .ok (v, t)) (hs : StateInv s) : StateInv t := by
  rw [busRead_ok h]; exact hs

/-- The bus address kinds of the errors (60_exceptions.md R371). -/
theorem busRead_error {a : Word} {s : State} {f : Fault} (h : busRead a s = .error f) : f = .memoryAccess a .read := by
  unfold busRead at h
  split at h <;> first | cases h | (split at h <;> cases h; rfl)

theorem busWrite_error {a : Word} {v : Byte} {s : State} {f : Fault} (h : busWrite a v s = .error f) :
    f = .memoryAccess a .write := by
  unfold busWrite at h
  split at h <;> first | cases h | (split at h <;> cases h; rfl)

theorem busPeek_error {a : Word} {s : State} {f : Fault} (h : busPeek a s = .error f) : f = .memoryAccess a .peek := by
  unfold busPeek at h
  split at h <;> first | cases h | (split at h <;> cases h; rfl)

/-- A reference device never rejects an access and is never open (60_exceptions.md R377). -/
theorem referenceDevices_access {s : State} (h : s.referenceDevices) (a : Word) :
    (∀ ks, s.accessOf a ≠ .guarded ks) ∧ s.accessOf a ≠ .external := by
  obtain ⟨hc, hi, hv, -⟩ := h
  unfold State.accessOf State.access
  cases (resolve a).1 <;> simp [hc, hi, hv]

end Sys2Proof.Machine
end

