-- ==== Sys2Proof/Laws/State.lean ====
section
/-! SUPPORT. One lemma per field per update, the views of the register file after each update, and what the halves and
flags read after they are written (10_state.md R31 to R36). -/

namespace Sys2Proof.Machine

section Fields
variable (s : State)

@[simp] theorem State.setA_af (v : Byte) : (s.setA v).af = join v (loByte s.af) := rfl
@[simp] theorem State.setA_bc (v : Byte) : (s.setA v).bc = s.bc := rfl
@[simp] theorem State.setA_de (v : Byte) : (s.setA v).de = s.de := rfl
@[simp] theorem State.setA_hl (v : Byte) : (s.setA v).hl = s.hl := rfl
@[simp] theorem State.setA_sp (v : Byte) : (s.setA v).sp = s.sp := rfl
@[simp] theorem State.setA_pc (v : Byte) : (s.setA v).pc = s.pc := rfl
@[simp] theorem State.setA_ime (v : Byte) : (s.setA v).ime = s.ime := rfl
@[simp] theorem State.setA_halted (v : Byte) : (s.setA v).halted = s.halted := rfl
@[simp] theorem State.setA_eiDelay (v : Byte) : (s.setA v).eiDelay = s.eiDelay := rfl
@[simp] theorem State.setA_mem (v : Byte) : (s.setA v).mem = s.mem := rfl
@[simp] theorem State.setA_cart (v : Byte) : (s.setA v).cart = s.cart := rfl
@[simp] theorem State.setA_io (v : Byte) : (s.setA v).io = s.io := rfl
@[simp] theorem State.setA_video (v : Byte) : (s.setA v).video = s.video := rfl
@[simp] theorem State.setA_wramx (v : Byte) : (s.setA v).wramx = s.wramx := rfl
@[simp] theorem State.setA_ext (v : Byte) : (s.setA v).ext = s.ext := rfl
@[simp] theorem State.setA_cycles (v : Byte) : (s.setA v).cycles = s.cycles := rfl
@[simp] theorem State.setF_af (v : Byte) : (s.setF v).af = join (hiByte s.af) (v &&& 0xF0) := rfl
@[simp] theorem State.setF_bc (v : Byte) : (s.setF v).bc = s.bc := rfl
@[simp] theorem State.setF_de (v : Byte) : (s.setF v).de = s.de := rfl
@[simp] theorem State.setF_hl (v : Byte) : (s.setF v).hl = s.hl := rfl
@[simp] theorem State.setF_sp (v : Byte) : (s.setF v).sp = s.sp := rfl
@[simp] theorem State.setF_pc (v : Byte) : (s.setF v).pc = s.pc := rfl
@[simp] theorem State.setF_ime (v : Byte) : (s.setF v).ime = s.ime := rfl
@[simp] theorem State.setF_halted (v : Byte) : (s.setF v).halted = s.halted := rfl
@[simp] theorem State.setF_eiDelay (v : Byte) : (s.setF v).eiDelay = s.eiDelay := rfl
@[simp] theorem State.setF_mem (v : Byte) : (s.setF v).mem = s.mem := rfl
@[simp] theorem State.setF_cart (v : Byte) : (s.setF v).cart = s.cart := rfl
@[simp] theorem State.setF_io (v : Byte) : (s.setF v).io = s.io := rfl
@[simp] theorem State.setF_video (v : Byte) : (s.setF v).video = s.video := rfl
@[simp] theorem State.setF_wramx (v : Byte) : (s.setF v).wramx = s.wramx := rfl
@[simp] theorem State.setF_ext (v : Byte) : (s.setF v).ext = s.ext := rfl
@[simp] theorem State.setF_cycles (v : Byte) : (s.setF v).cycles = s.cycles := rfl
@[simp] theorem State.setAF_af (v : Word) : (s.setAF v).af = v &&& 0xFFF0 := rfl
@[simp] theorem State.setAF_bc (v : Word) : (s.setAF v).bc = s.bc := rfl
@[simp] theorem State.setAF_de (v : Word) : (s.setAF v).de = s.de := rfl
@[simp] theorem State.setAF_hl (v : Word) : (s.setAF v).hl = s.hl := rfl
@[simp] theorem State.setAF_sp (v : Word) : (s.setAF v).sp = s.sp := rfl
@[simp] theorem State.setAF_pc (v : Word) : (s.setAF v).pc = s.pc := rfl
@[simp] theorem State.setAF_ime (v : Word) : (s.setAF v).ime = s.ime := rfl
@[simp] theorem State.setAF_halted (v : Word) : (s.setAF v).halted = s.halted := rfl
@[simp] theorem State.setAF_eiDelay (v : Word) : (s.setAF v).eiDelay = s.eiDelay := rfl
@[simp] theorem State.setAF_mem (v : Word) : (s.setAF v).mem = s.mem := rfl
@[simp] theorem State.setAF_cart (v : Word) : (s.setAF v).cart = s.cart := rfl
@[simp] theorem State.setAF_io (v : Word) : (s.setAF v).io = s.io := rfl
@[simp] theorem State.setAF_video (v : Word) : (s.setAF v).video = s.video := rfl
@[simp] theorem State.setAF_wramx (v : Word) : (s.setAF v).wramx = s.wramx := rfl
@[simp] theorem State.setAF_ext (v : Word) : (s.setAF v).ext = s.ext := rfl
@[simp] theorem State.setAF_cycles (v : Word) : (s.setAF v).cycles = s.cycles := rfl
@[simp] theorem State.setB_af (v : Byte) : (s.setB v).af = s.af := rfl
@[simp] theorem State.setB_bc (v : Byte) : (s.setB v).bc = join v (loByte s.bc) := rfl
@[simp] theorem State.setB_de (v : Byte) : (s.setB v).de = s.de := rfl
@[simp] theorem State.setB_hl (v : Byte) : (s.setB v).hl = s.hl := rfl
@[simp] theorem State.setB_sp (v : Byte) : (s.setB v).sp = s.sp := rfl
@[simp] theorem State.setB_pc (v : Byte) : (s.setB v).pc = s.pc := rfl
@[simp] theorem State.setB_ime (v : Byte) : (s.setB v).ime = s.ime := rfl
@[simp] theorem State.setB_halted (v : Byte) : (s.setB v).halted = s.halted := rfl
@[simp] theorem State.setB_eiDelay (v : Byte) : (s.setB v).eiDelay = s.eiDelay := rfl
@[simp] theorem State.setB_mem (v : Byte) : (s.setB v).mem = s.mem := rfl
@[simp] theorem State.setB_cart (v : Byte) : (s.setB v).cart = s.cart := rfl
@[simp] theorem State.setB_io (v : Byte) : (s.setB v).io = s.io := rfl
@[simp] theorem State.setB_video (v : Byte) : (s.setB v).video = s.video := rfl
@[simp] theorem State.setB_wramx (v : Byte) : (s.setB v).wramx = s.wramx := rfl
@[simp] theorem State.setB_ext (v : Byte) : (s.setB v).ext = s.ext := rfl
@[simp] theorem State.setB_cycles (v : Byte) : (s.setB v).cycles = s.cycles := rfl
@[simp] theorem State.setC_af (v : Byte) : (s.setC v).af = s.af := rfl
@[simp] theorem State.setC_bc (v : Byte) : (s.setC v).bc = join (hiByte s.bc) v := rfl
@[simp] theorem State.setC_de (v : Byte) : (s.setC v).de = s.de := rfl
@[simp] theorem State.setC_hl (v : Byte) : (s.setC v).hl = s.hl := rfl
@[simp] theorem State.setC_sp (v : Byte) : (s.setC v).sp = s.sp := rfl
@[simp] theorem State.setC_pc (v : Byte) : (s.setC v).pc = s.pc := rfl
@[simp] theorem State.setC_ime (v : Byte) : (s.setC v).ime = s.ime := rfl
@[simp] theorem State.setC_halted (v : Byte) : (s.setC v).halted = s.halted := rfl
@[simp] theorem State.setC_eiDelay (v : Byte) : (s.setC v).eiDelay = s.eiDelay := rfl
@[simp] theorem State.setC_mem (v : Byte) : (s.setC v).mem = s.mem := rfl
@[simp] theorem State.setC_cart (v : Byte) : (s.setC v).cart = s.cart := rfl
@[simp] theorem State.setC_io (v : Byte) : (s.setC v).io = s.io := rfl
@[simp] theorem State.setC_video (v : Byte) : (s.setC v).video = s.video := rfl
@[simp] theorem State.setC_wramx (v : Byte) : (s.setC v).wramx = s.wramx := rfl
@[simp] theorem State.setC_ext (v : Byte) : (s.setC v).ext = s.ext := rfl
@[simp] theorem State.setC_cycles (v : Byte) : (s.setC v).cycles = s.cycles := rfl
@[simp] theorem State.setD_af (v : Byte) : (s.setD v).af = s.af := rfl
@[simp] theorem State.setD_bc (v : Byte) : (s.setD v).bc = s.bc := rfl
@[simp] theorem State.setD_de (v : Byte) : (s.setD v).de = join v (loByte s.de) := rfl
@[simp] theorem State.setD_hl (v : Byte) : (s.setD v).hl = s.hl := rfl
@[simp] theorem State.setD_sp (v : Byte) : (s.setD v).sp = s.sp := rfl
@[simp] theorem State.setD_pc (v : Byte) : (s.setD v).pc = s.pc := rfl
@[simp] theorem State.setD_ime (v : Byte) : (s.setD v).ime = s.ime := rfl
@[simp] theorem State.setD_halted (v : Byte) : (s.setD v).halted = s.halted := rfl
@[simp] theorem State.setD_eiDelay (v : Byte) : (s.setD v).eiDelay = s.eiDelay := rfl
@[simp] theorem State.setD_mem (v : Byte) : (s.setD v).mem = s.mem := rfl
@[simp] theorem State.setD_cart (v : Byte) : (s.setD v).cart = s.cart := rfl
@[simp] theorem State.setD_io (v : Byte) : (s.setD v).io = s.io := rfl
@[simp] theorem State.setD_video (v : Byte) : (s.setD v).video = s.video := rfl
@[simp] theorem State.setD_wramx (v : Byte) : (s.setD v).wramx = s.wramx := rfl
@[simp] theorem State.setD_ext (v : Byte) : (s.setD v).ext = s.ext := rfl
@[simp] theorem State.setD_cycles (v : Byte) : (s.setD v).cycles = s.cycles := rfl
@[simp] theorem State.setE_af (v : Byte) : (s.setE v).af = s.af := rfl
@[simp] theorem State.setE_bc (v : Byte) : (s.setE v).bc = s.bc := rfl
@[simp] theorem State.setE_de (v : Byte) : (s.setE v).de = join (hiByte s.de) v := rfl
@[simp] theorem State.setE_hl (v : Byte) : (s.setE v).hl = s.hl := rfl
@[simp] theorem State.setE_sp (v : Byte) : (s.setE v).sp = s.sp := rfl
@[simp] theorem State.setE_pc (v : Byte) : (s.setE v).pc = s.pc := rfl
@[simp] theorem State.setE_ime (v : Byte) : (s.setE v).ime = s.ime := rfl
@[simp] theorem State.setE_halted (v : Byte) : (s.setE v).halted = s.halted := rfl
@[simp] theorem State.setE_eiDelay (v : Byte) : (s.setE v).eiDelay = s.eiDelay := rfl
@[simp] theorem State.setE_mem (v : Byte) : (s.setE v).mem = s.mem := rfl
@[simp] theorem State.setE_cart (v : Byte) : (s.setE v).cart = s.cart := rfl
@[simp] theorem State.setE_io (v : Byte) : (s.setE v).io = s.io := rfl
@[simp] theorem State.setE_video (v : Byte) : (s.setE v).video = s.video := rfl
@[simp] theorem State.setE_wramx (v : Byte) : (s.setE v).wramx = s.wramx := rfl
@[simp] theorem State.setE_ext (v : Byte) : (s.setE v).ext = s.ext := rfl
@[simp] theorem State.setE_cycles (v : Byte) : (s.setE v).cycles = s.cycles := rfl
@[simp] theorem State.setH_af (v : Byte) : (s.setH v).af = s.af := rfl
@[simp] theorem State.setH_bc (v : Byte) : (s.setH v).bc = s.bc := rfl
@[simp] theorem State.setH_de (v : Byte) : (s.setH v).de = s.de := rfl
@[simp] theorem State.setH_hl (v : Byte) : (s.setH v).hl = join v (loByte s.hl) := rfl
@[simp] theorem State.setH_sp (v : Byte) : (s.setH v).sp = s.sp := rfl
@[simp] theorem State.setH_pc (v : Byte) : (s.setH v).pc = s.pc := rfl
@[simp] theorem State.setH_ime (v : Byte) : (s.setH v).ime = s.ime := rfl
@[simp] theorem State.setH_halted (v : Byte) : (s.setH v).halted = s.halted := rfl
@[simp] theorem State.setH_eiDelay (v : Byte) : (s.setH v).eiDelay = s.eiDelay := rfl
@[simp] theorem State.setH_mem (v : Byte) : (s.setH v).mem = s.mem := rfl
@[simp] theorem State.setH_cart (v : Byte) : (s.setH v).cart = s.cart := rfl
@[simp] theorem State.setH_io (v : Byte) : (s.setH v).io = s.io := rfl
@[simp] theorem State.setH_video (v : Byte) : (s.setH v).video = s.video := rfl
@[simp] theorem State.setH_wramx (v : Byte) : (s.setH v).wramx = s.wramx := rfl
@[simp] theorem State.setH_ext (v : Byte) : (s.setH v).ext = s.ext := rfl
@[simp] theorem State.setH_cycles (v : Byte) : (s.setH v).cycles = s.cycles := rfl
@[simp] theorem State.setL_af (v : Byte) : (s.setL v).af = s.af := rfl
@[simp] theorem State.setL_bc (v : Byte) : (s.setL v).bc = s.bc := rfl
@[simp] theorem State.setL_de (v : Byte) : (s.setL v).de = s.de := rfl
@[simp] theorem State.setL_hl (v : Byte) : (s.setL v).hl = join (hiByte s.hl) v := rfl
@[simp] theorem State.setL_sp (v : Byte) : (s.setL v).sp = s.sp := rfl
@[simp] theorem State.setL_pc (v : Byte) : (s.setL v).pc = s.pc := rfl
@[simp] theorem State.setL_ime (v : Byte) : (s.setL v).ime = s.ime := rfl
@[simp] theorem State.setL_halted (v : Byte) : (s.setL v).halted = s.halted := rfl
@[simp] theorem State.setL_eiDelay (v : Byte) : (s.setL v).eiDelay = s.eiDelay := rfl
@[simp] theorem State.setL_mem (v : Byte) : (s.setL v).mem = s.mem := rfl
@[simp] theorem State.setL_cart (v : Byte) : (s.setL v).cart = s.cart := rfl
@[simp] theorem State.setL_io (v : Byte) : (s.setL v).io = s.io := rfl
@[simp] theorem State.setL_video (v : Byte) : (s.setL v).video = s.video := rfl
@[simp] theorem State.setL_wramx (v : Byte) : (s.setL v).wramx = s.wramx := rfl
@[simp] theorem State.setL_ext (v : Byte) : (s.setL v).ext = s.ext := rfl
@[simp] theorem State.setL_cycles (v : Byte) : (s.setL v).cycles = s.cycles := rfl
@[simp] theorem State.setBC_af (v : Word) : (s.setBC v).af = s.af := rfl
@[simp] theorem State.setBC_bc (v : Word) : (s.setBC v).bc = v := rfl
@[simp] theorem State.setBC_de (v : Word) : (s.setBC v).de = s.de := rfl
@[simp] theorem State.setBC_hl (v : Word) : (s.setBC v).hl = s.hl := rfl
@[simp] theorem State.setBC_sp (v : Word) : (s.setBC v).sp = s.sp := rfl
@[simp] theorem State.setBC_pc (v : Word) : (s.setBC v).pc = s.pc := rfl
@[simp] theorem State.setBC_ime (v : Word) : (s.setBC v).ime = s.ime := rfl
@[simp] theorem State.setBC_halted (v : Word) : (s.setBC v).halted = s.halted := rfl
@[simp] theorem State.setBC_eiDelay (v : Word) : (s.setBC v).eiDelay = s.eiDelay := rfl
@[simp] theorem State.setBC_mem (v : Word) : (s.setBC v).mem = s.mem := rfl
@[simp] theorem State.setBC_cart (v : Word) : (s.setBC v).cart = s.cart := rfl
@[simp] theorem State.setBC_io (v : Word) : (s.setBC v).io = s.io := rfl
@[simp] theorem State.setBC_video (v : Word) : (s.setBC v).video = s.video := rfl
@[simp] theorem State.setBC_wramx (v : Word) : (s.setBC v).wramx = s.wramx := rfl
@[simp] theorem State.setBC_ext (v : Word) : (s.setBC v).ext = s.ext := rfl
@[simp] theorem State.setBC_cycles (v : Word) : (s.setBC v).cycles = s.cycles := rfl
@[simp] theorem State.setDE_af (v : Word) : (s.setDE v).af = s.af := rfl
@[simp] theorem State.setDE_bc (v : Word) : (s.setDE v).bc = s.bc := rfl
@[simp] theorem State.setDE_de (v : Word) : (s.setDE v).de = v := rfl
@[simp] theorem State.setDE_hl (v : Word) : (s.setDE v).hl = s.hl := rfl
@[simp] theorem State.setDE_sp (v : Word) : (s.setDE v).sp = s.sp := rfl
@[simp] theorem State.setDE_pc (v : Word) : (s.setDE v).pc = s.pc := rfl
@[simp] theorem State.setDE_ime (v : Word) : (s.setDE v).ime = s.ime := rfl
@[simp] theorem State.setDE_halted (v : Word) : (s.setDE v).halted = s.halted := rfl
@[simp] theorem State.setDE_eiDelay (v : Word) : (s.setDE v).eiDelay = s.eiDelay := rfl
@[simp] theorem State.setDE_mem (v : Word) : (s.setDE v).mem = s.mem := rfl
@[simp] theorem State.setDE_cart (v : Word) : (s.setDE v).cart = s.cart := rfl
@[simp] theorem State.setDE_io (v : Word) : (s.setDE v).io = s.io := rfl
@[simp] theorem State.setDE_video (v : Word) : (s.setDE v).video = s.video := rfl
@[simp] theorem State.setDE_wramx (v : Word) : (s.setDE v).wramx = s.wramx := rfl
@[simp] theorem State.setDE_ext (v : Word) : (s.setDE v).ext = s.ext := rfl
@[simp] theorem State.setDE_cycles (v : Word) : (s.setDE v).cycles = s.cycles := rfl
@[simp] theorem State.setHL_af (v : Word) : (s.setHL v).af = s.af := rfl
@[simp] theorem State.setHL_bc (v : Word) : (s.setHL v).bc = s.bc := rfl
@[simp] theorem State.setHL_de (v : Word) : (s.setHL v).de = s.de := rfl
@[simp] theorem State.setHL_hl (v : Word) : (s.setHL v).hl = v := rfl
@[simp] theorem State.setHL_sp (v : Word) : (s.setHL v).sp = s.sp := rfl
@[simp] theorem State.setHL_pc (v : Word) : (s.setHL v).pc = s.pc := rfl
@[simp] theorem State.setHL_ime (v : Word) : (s.setHL v).ime = s.ime := rfl
@[simp] theorem State.setHL_halted (v : Word) : (s.setHL v).halted = s.halted := rfl
@[simp] theorem State.setHL_eiDelay (v : Word) : (s.setHL v).eiDelay = s.eiDelay := rfl
@[simp] theorem State.setHL_mem (v : Word) : (s.setHL v).mem = s.mem := rfl
@[simp] theorem State.setHL_cart (v : Word) : (s.setHL v).cart = s.cart := rfl
@[simp] theorem State.setHL_io (v : Word) : (s.setHL v).io = s.io := rfl
@[simp] theorem State.setHL_video (v : Word) : (s.setHL v).video = s.video := rfl
@[simp] theorem State.setHL_wramx (v : Word) : (s.setHL v).wramx = s.wramx := rfl
@[simp] theorem State.setHL_ext (v : Word) : (s.setHL v).ext = s.ext := rfl
@[simp] theorem State.setHL_cycles (v : Word) : (s.setHL v).cycles = s.cycles := rfl
@[simp] theorem State.setSP_af (v : Word) : (s.setSP v).af = s.af := rfl
@[simp] theorem State.setSP_bc (v : Word) : (s.setSP v).bc = s.bc := rfl
@[simp] theorem State.setSP_de (v : Word) : (s.setSP v).de = s.de := rfl
@[simp] theorem State.setSP_hl (v : Word) : (s.setSP v).hl = s.hl := rfl
@[simp] theorem State.setSP_sp (v : Word) : (s.setSP v).sp = v := rfl
@[simp] theorem State.setSP_pc (v : Word) : (s.setSP v).pc = s.pc := rfl
@[simp] theorem State.setSP_ime (v : Word) : (s.setSP v).ime = s.ime := rfl
@[simp] theorem State.setSP_halted (v : Word) : (s.setSP v).halted = s.halted := rfl
@[simp] theorem State.setSP_eiDelay (v : Word) : (s.setSP v).eiDelay = s.eiDelay := rfl
@[simp] theorem State.setSP_mem (v : Word) : (s.setSP v).mem = s.mem := rfl
@[simp] theorem State.setSP_cart (v : Word) : (s.setSP v).cart = s.cart := rfl
@[simp] theorem State.setSP_io (v : Word) : (s.setSP v).io = s.io := rfl
@[simp] theorem State.setSP_video (v : Word) : (s.setSP v).video = s.video := rfl
@[simp] theorem State.setSP_wramx (v : Word) : (s.setSP v).wramx = s.wramx := rfl
@[simp] theorem State.setSP_ext (v : Word) : (s.setSP v).ext = s.ext := rfl
@[simp] theorem State.setSP_cycles (v : Word) : (s.setSP v).cycles = s.cycles := rfl
@[simp] theorem State.setPC_af (v : Word) : (s.setPC v).af = s.af := rfl
@[simp] theorem State.setPC_bc (v : Word) : (s.setPC v).bc = s.bc := rfl
@[simp] theorem State.setPC_de (v : Word) : (s.setPC v).de = s.de := rfl
@[simp] theorem State.setPC_hl (v : Word) : (s.setPC v).hl = s.hl := rfl
@[simp] theorem State.setPC_sp (v : Word) : (s.setPC v).sp = s.sp := rfl
@[simp] theorem State.setPC_pc (v : Word) : (s.setPC v).pc = v := rfl
@[simp] theorem State.setPC_ime (v : Word) : (s.setPC v).ime = s.ime := rfl
@[simp] theorem State.setPC_halted (v : Word) : (s.setPC v).halted = s.halted := rfl
@[simp] theorem State.setPC_eiDelay (v : Word) : (s.setPC v).eiDelay = s.eiDelay := rfl
@[simp] theorem State.setPC_mem (v : Word) : (s.setPC v).mem = s.mem := rfl
@[simp] theorem State.setPC_cart (v : Word) : (s.setPC v).cart = s.cart := rfl
@[simp] theorem State.setPC_io (v : Word) : (s.setPC v).io = s.io := rfl
@[simp] theorem State.setPC_video (v : Word) : (s.setPC v).video = s.video := rfl
@[simp] theorem State.setPC_wramx (v : Word) : (s.setPC v).wramx = s.wramx := rfl
@[simp] theorem State.setPC_ext (v : Word) : (s.setPC v).ext = s.ext := rfl
@[simp] theorem State.setPC_cycles (v : Word) : (s.setPC v).cycles = s.cycles := rfl
@[simp] theorem State.setIME_af (v : Bool) : (s.setIME v).af = s.af := rfl
@[simp] theorem State.setIME_bc (v : Bool) : (s.setIME v).bc = s.bc := rfl
@[simp] theorem State.setIME_de (v : Bool) : (s.setIME v).de = s.de := rfl
@[simp] theorem State.setIME_hl (v : Bool) : (s.setIME v).hl = s.hl := rfl
@[simp] theorem State.setIME_sp (v : Bool) : (s.setIME v).sp = s.sp := rfl
@[simp] theorem State.setIME_pc (v : Bool) : (s.setIME v).pc = s.pc := rfl
@[simp] theorem State.setIME_ime (v : Bool) : (s.setIME v).ime = v := rfl
@[simp] theorem State.setIME_halted (v : Bool) : (s.setIME v).halted = s.halted := rfl
@[simp] theorem State.setIME_eiDelay (v : Bool) : (s.setIME v).eiDelay = s.eiDelay := rfl
@[simp] theorem State.setIME_mem (v : Bool) : (s.setIME v).mem = s.mem := rfl
@[simp] theorem State.setIME_cart (v : Bool) : (s.setIME v).cart = s.cart := rfl
@[simp] theorem State.setIME_io (v : Bool) : (s.setIME v).io = s.io := rfl
@[simp] theorem State.setIME_video (v : Bool) : (s.setIME v).video = s.video := rfl
@[simp] theorem State.setIME_wramx (v : Bool) : (s.setIME v).wramx = s.wramx := rfl
@[simp] theorem State.setIME_ext (v : Bool) : (s.setIME v).ext = s.ext := rfl
@[simp] theorem State.setIME_cycles (v : Bool) : (s.setIME v).cycles = s.cycles := rfl
@[simp] theorem State.setHalted_af (v : Bool) : (s.setHalted v).af = s.af := rfl
@[simp] theorem State.setHalted_bc (v : Bool) : (s.setHalted v).bc = s.bc := rfl
@[simp] theorem State.setHalted_de (v : Bool) : (s.setHalted v).de = s.de := rfl
@[simp] theorem State.setHalted_hl (v : Bool) : (s.setHalted v).hl = s.hl := rfl
@[simp] theorem State.setHalted_sp (v : Bool) : (s.setHalted v).sp = s.sp := rfl
@[simp] theorem State.setHalted_pc (v : Bool) : (s.setHalted v).pc = s.pc := rfl
@[simp] theorem State.setHalted_ime (v : Bool) : (s.setHalted v).ime = s.ime := rfl
@[simp] theorem State.setHalted_halted (v : Bool) : (s.setHalted v).halted = v := rfl
@[simp] theorem State.setHalted_eiDelay (v : Bool) : (s.setHalted v).eiDelay = s.eiDelay := rfl
@[simp] theorem State.setHalted_mem (v : Bool) : (s.setHalted v).mem = s.mem := rfl
@[simp] theorem State.setHalted_cart (v : Bool) : (s.setHalted v).cart = s.cart := rfl
@[simp] theorem State.setHalted_io (v : Bool) : (s.setHalted v).io = s.io := rfl
@[simp] theorem State.setHalted_video (v : Bool) : (s.setHalted v).video = s.video := rfl
@[simp] theorem State.setHalted_wramx (v : Bool) : (s.setHalted v).wramx = s.wramx := rfl
@[simp] theorem State.setHalted_ext (v : Bool) : (s.setHalted v).ext = s.ext := rfl
@[simp] theorem State.setHalted_cycles (v : Bool) : (s.setHalted v).cycles = s.cycles := rfl
@[simp] theorem State.setEiDelay_af (v : Bool) : (s.setEiDelay v).af = s.af := rfl
@[simp] theorem State.setEiDelay_bc (v : Bool) : (s.setEiDelay v).bc = s.bc := rfl
@[simp] theorem State.setEiDelay_de (v : Bool) : (s.setEiDelay v).de = s.de := rfl
@[simp] theorem State.setEiDelay_hl (v : Bool) : (s.setEiDelay v).hl = s.hl := rfl
@[simp] theorem State.setEiDelay_sp (v : Bool) : (s.setEiDelay v).sp = s.sp := rfl
@[simp] theorem State.setEiDelay_pc (v : Bool) : (s.setEiDelay v).pc = s.pc := rfl
@[simp] theorem State.setEiDelay_ime (v : Bool) : (s.setEiDelay v).ime = s.ime := rfl
@[simp] theorem State.setEiDelay_halted (v : Bool) : (s.setEiDelay v).halted = s.halted := rfl
@[simp] theorem State.setEiDelay_eiDelay (v : Bool) : (s.setEiDelay v).eiDelay = v := rfl
@[simp] theorem State.setEiDelay_mem (v : Bool) : (s.setEiDelay v).mem = s.mem := rfl
@[simp] theorem State.setEiDelay_cart (v : Bool) : (s.setEiDelay v).cart = s.cart := rfl
@[simp] theorem State.setEiDelay_io (v : Bool) : (s.setEiDelay v).io = s.io := rfl
@[simp] theorem State.setEiDelay_video (v : Bool) : (s.setEiDelay v).video = s.video := rfl
@[simp] theorem State.setEiDelay_wramx (v : Bool) : (s.setEiDelay v).wramx = s.wramx := rfl
@[simp] theorem State.setEiDelay_ext (v : Bool) : (s.setEiDelay v).ext = s.ext := rfl
@[simp] theorem State.setEiDelay_cycles (v : Bool) : (s.setEiDelay v).cycles = s.cycles := rfl
@[simp] theorem State.setCycles_af (v : Nat) : (s.setCycles v).af = s.af := rfl
@[simp] theorem State.setCycles_bc (v : Nat) : (s.setCycles v).bc = s.bc := rfl
@[simp] theorem State.setCycles_de (v : Nat) : (s.setCycles v).de = s.de := rfl
@[simp] theorem State.setCycles_hl (v : Nat) : (s.setCycles v).hl = s.hl := rfl
@[simp] theorem State.setCycles_sp (v : Nat) : (s.setCycles v).sp = s.sp := rfl
@[simp] theorem State.setCycles_pc (v : Nat) : (s.setCycles v).pc = s.pc := rfl
@[simp] theorem State.setCycles_ime (v : Nat) : (s.setCycles v).ime = s.ime := rfl
@[simp] theorem State.setCycles_halted (v : Nat) : (s.setCycles v).halted = s.halted := rfl
@[simp] theorem State.setCycles_eiDelay (v : Nat) : (s.setCycles v).eiDelay = s.eiDelay := rfl
@[simp] theorem State.setCycles_mem (v : Nat) : (s.setCycles v).mem = s.mem := rfl
@[simp] theorem State.setCycles_cart (v : Nat) : (s.setCycles v).cart = s.cart := rfl
@[simp] theorem State.setCycles_io (v : Nat) : (s.setCycles v).io = s.io := rfl
@[simp] theorem State.setCycles_video (v : Nat) : (s.setCycles v).video = s.video := rfl
@[simp] theorem State.setCycles_wramx (v : Nat) : (s.setCycles v).wramx = s.wramx := rfl
@[simp] theorem State.setCycles_ext (v : Nat) : (s.setCycles v).ext = s.ext := rfl
@[simp] theorem State.setCycles_cycles (v : Nat) : (s.setCycles v).cycles = v := rfl
@[simp] theorem State.setFZ_bc (v : Bool) : (s.setFZ v).bc = s.bc := rfl
@[simp] theorem State.setFZ_de (v : Bool) : (s.setFZ v).de = s.de := rfl
@[simp] theorem State.setFZ_hl (v : Bool) : (s.setFZ v).hl = s.hl := rfl
@[simp] theorem State.setFZ_sp (v : Bool) : (s.setFZ v).sp = s.sp := rfl
@[simp] theorem State.setFZ_pc (v : Bool) : (s.setFZ v).pc = s.pc := rfl
@[simp] theorem State.setFZ_ime (v : Bool) : (s.setFZ v).ime = s.ime := rfl
@[simp] theorem State.setFZ_halted (v : Bool) : (s.setFZ v).halted = s.halted := rfl
@[simp] theorem State.setFZ_eiDelay (v : Bool) : (s.setFZ v).eiDelay = s.eiDelay := rfl
@[simp] theorem State.setFZ_mem (v : Bool) : (s.setFZ v).mem = s.mem := rfl
@[simp] theorem State.setFZ_cart (v : Bool) : (s.setFZ v).cart = s.cart := rfl
@[simp] theorem State.setFZ_io (v : Bool) : (s.setFZ v).io = s.io := rfl
@[simp] theorem State.setFZ_video (v : Bool) : (s.setFZ v).video = s.video := rfl
@[simp] theorem State.setFZ_wramx (v : Bool) : (s.setFZ v).wramx = s.wramx := rfl
@[simp] theorem State.setFZ_ext (v : Bool) : (s.setFZ v).ext = s.ext := rfl
@[simp] theorem State.setFZ_cycles (v : Bool) : (s.setFZ v).cycles = s.cycles := rfl
@[simp] theorem State.setFN_bc (v : Bool) : (s.setFN v).bc = s.bc := rfl
@[simp] theorem State.setFN_de (v : Bool) : (s.setFN v).de = s.de := rfl
@[simp] theorem State.setFN_hl (v : Bool) : (s.setFN v).hl = s.hl := rfl
@[simp] theorem State.setFN_sp (v : Bool) : (s.setFN v).sp = s.sp := rfl
@[simp] theorem State.setFN_pc (v : Bool) : (s.setFN v).pc = s.pc := rfl
@[simp] theorem State.setFN_ime (v : Bool) : (s.setFN v).ime = s.ime := rfl
@[simp] theorem State.setFN_halted (v : Bool) : (s.setFN v).halted = s.halted := rfl
@[simp] theorem State.setFN_eiDelay (v : Bool) : (s.setFN v).eiDelay = s.eiDelay := rfl
@[simp] theorem State.setFN_mem (v : Bool) : (s.setFN v).mem = s.mem := rfl
@[simp] theorem State.setFN_cart (v : Bool) : (s.setFN v).cart = s.cart := rfl
@[simp] theorem State.setFN_io (v : Bool) : (s.setFN v).io = s.io := rfl
@[simp] theorem State.setFN_video (v : Bool) : (s.setFN v).video = s.video := rfl
@[simp] theorem State.setFN_wramx (v : Bool) : (s.setFN v).wramx = s.wramx := rfl
@[simp] theorem State.setFN_ext (v : Bool) : (s.setFN v).ext = s.ext := rfl
@[simp] theorem State.setFN_cycles (v : Bool) : (s.setFN v).cycles = s.cycles := rfl
@[simp] theorem State.setFH_bc (v : Bool) : (s.setFH v).bc = s.bc := rfl
@[simp] theorem State.setFH_de (v : Bool) : (s.setFH v).de = s.de := rfl
@[simp] theorem State.setFH_hl (v : Bool) : (s.setFH v).hl = s.hl := rfl
@[simp] theorem State.setFH_sp (v : Bool) : (s.setFH v).sp = s.sp := rfl
@[simp] theorem State.setFH_pc (v : Bool) : (s.setFH v).pc = s.pc := rfl
@[simp] theorem State.setFH_ime (v : Bool) : (s.setFH v).ime = s.ime := rfl
@[simp] theorem State.setFH_halted (v : Bool) : (s.setFH v).halted = s.halted := rfl
@[simp] theorem State.setFH_eiDelay (v : Bool) : (s.setFH v).eiDelay = s.eiDelay := rfl
@[simp] theorem State.setFH_mem (v : Bool) : (s.setFH v).mem = s.mem := rfl
@[simp] theorem State.setFH_cart (v : Bool) : (s.setFH v).cart = s.cart := rfl
@[simp] theorem State.setFH_io (v : Bool) : (s.setFH v).io = s.io := rfl
@[simp] theorem State.setFH_video (v : Bool) : (s.setFH v).video = s.video := rfl
@[simp] theorem State.setFH_wramx (v : Bool) : (s.setFH v).wramx = s.wramx := rfl
@[simp] theorem State.setFH_ext (v : Bool) : (s.setFH v).ext = s.ext := rfl
@[simp] theorem State.setFH_cycles (v : Bool) : (s.setFH v).cycles = s.cycles := rfl
@[simp] theorem State.setFC_bc (v : Bool) : (s.setFC v).bc = s.bc := rfl
@[simp] theorem State.setFC_de (v : Bool) : (s.setFC v).de = s.de := rfl
@[simp] theorem State.setFC_hl (v : Bool) : (s.setFC v).hl = s.hl := rfl
@[simp] theorem State.setFC_sp (v : Bool) : (s.setFC v).sp = s.sp := rfl
@[simp] theorem State.setFC_pc (v : Bool) : (s.setFC v).pc = s.pc := rfl
@[simp] theorem State.setFC_ime (v : Bool) : (s.setFC v).ime = s.ime := rfl
@[simp] theorem State.setFC_halted (v : Bool) : (s.setFC v).halted = s.halted := rfl
@[simp] theorem State.setFC_eiDelay (v : Bool) : (s.setFC v).eiDelay = s.eiDelay := rfl
@[simp] theorem State.setFC_mem (v : Bool) : (s.setFC v).mem = s.mem := rfl
@[simp] theorem State.setFC_cart (v : Bool) : (s.setFC v).cart = s.cart := rfl
@[simp] theorem State.setFC_io (v : Bool) : (s.setFC v).io = s.io := rfl
@[simp] theorem State.setFC_video (v : Bool) : (s.setFC v).video = s.video := rfl
@[simp] theorem State.setFC_wramx (v : Bool) : (s.setFC v).wramx = s.wramx := rfl
@[simp] theorem State.setFC_ext (v : Bool) : (s.setFC v).ext = s.ext := rfl
@[simp] theorem State.setFC_cycles (v : Bool) : (s.setFC v).cycles = s.cycles := rfl
@[simp] theorem State.setFlags_bc (z n h c : Bool) : (s.setFlags z n h c).bc = s.bc := rfl
@[simp] theorem State.setFlags_de (z n h c : Bool) : (s.setFlags z n h c).de = s.de := rfl
@[simp] theorem State.setFlags_hl (z n h c : Bool) : (s.setFlags z n h c).hl = s.hl := rfl
@[simp] theorem State.setFlags_sp (z n h c : Bool) : (s.setFlags z n h c).sp = s.sp := rfl
@[simp] theorem State.setFlags_pc (z n h c : Bool) : (s.setFlags z n h c).pc = s.pc := rfl
@[simp] theorem State.setFlags_ime (z n h c : Bool) : (s.setFlags z n h c).ime = s.ime := rfl
@[simp] theorem State.setFlags_halted (z n h c : Bool) : (s.setFlags z n h c).halted = s.halted := rfl
@[simp] theorem State.setFlags_eiDelay (z n h c : Bool) : (s.setFlags z n h c).eiDelay = s.eiDelay := rfl
@[simp] theorem State.setFlags_mem (z n h c : Bool) : (s.setFlags z n h c).mem = s.mem := rfl
@[simp] theorem State.setFlags_cart (z n h c : Bool) : (s.setFlags z n h c).cart = s.cart := rfl
@[simp] theorem State.setFlags_io (z n h c : Bool) : (s.setFlags z n h c).io = s.io := rfl
@[simp] theorem State.setFlags_video (z n h c : Bool) : (s.setFlags z n h c).video = s.video := rfl
@[simp] theorem State.setFlags_wramx (z n h c : Bool) : (s.setFlags z n h c).wramx = s.wramx := rfl
@[simp] theorem State.setFlags_ext (z n h c : Bool) : (s.setFlags z n h c).ext = s.ext := rfl
@[simp] theorem State.setFlags_cycles (z n h c : Bool) : (s.setFlags z n h c).cycles = s.cycles := rfl

end Fields

/-! ### Halves of a word -/

theorem join_getLsbD (h l : Byte) (i : Nat) :
    (join h l).getLsbD i = if i < 8 then l.getLsbD i else h.getLsbD (i - 8) := by
  unfold join; exact BitVec.getLsbD_append

theorem hiByte_getLsbD (w : Word) (i : Nat) : (hiByte w).getLsbD i = (decide (i < 8) && w.getLsbD (8 + i)) := by
  simp [hiByte]

theorem loByte_getLsbD (w : Word) (i : Nat) : (loByte w).getLsbD i = (decide (i < 8) && w.getLsbD i) := by
  simp [loByte]

@[simp] theorem hiByte_join (h l : Byte) : hiByte (join h l) = h := by
  apply BitVec.eq_of_getLsbD_eq; intro i hi
  rw [hiByte_getLsbD, join_getLsbD, if_neg (by omega), Nat.add_sub_cancel_left, decide_eq_true hi, Bool.true_and]

@[simp] theorem loByte_join (h l : Byte) : loByte (join h l) = l := by
  apply BitVec.eq_of_getLsbD_eq; intro i hi
  rw [loByte_getLsbD, join_getLsbD, if_pos hi, decide_eq_true hi, Bool.true_and]

@[simp] theorem join_hiByte_loByte (w : Word) : join (hiByte w) (loByte w) = w := by
  apply BitVec.eq_of_getLsbD_eq; intro i hi
  rw [join_getLsbD, hiByte_getLsbD, loByte_getLsbD]
  split
  · rename_i h; rw [decide_eq_true h, Bool.true_and]
  · rw [decide_eq_true (by omega), Bool.true_and]; congr 1; omega

theorem join_and (h l h' l' : Byte) : join h l &&& join h' l' = join (h &&& h') (l &&& l') := by
  apply BitVec.eq_of_getLsbD_eq; intro i hi
  simp only [join_getLsbD, BitVec.getLsbD_and]; split <;> rfl

theorem hiByte_and (w v : Word) : hiByte (w &&& v) = hiByte w &&& hiByte v := by
  apply BitVec.eq_of_getLsbD_eq; intro i hi
  simp only [hiByte_getLsbD, BitVec.getLsbD_and, decide_eq_true hi, Bool.true_and]

theorem loByte_and (w v : Word) : loByte (w &&& v) = loByte w &&& loByte v := by
  apply BitVec.eq_of_getLsbD_eq; intro i hi
  simp only [loByte_getLsbD, BitVec.getLsbD_and, decide_eq_true hi, Bool.true_and]

/-! ### A and F after a write -/

section AF
variable (s : State)

@[simp] theorem State.setA_A (v : Byte) : (s.setA v).A = v := by simp [State.A]
@[simp] theorem State.setA_F (v : Byte) : (s.setA v).F = s.F := by simp [State.F]
@[simp] theorem State.setF_A (v : Byte) : (s.setF v).A = s.A := by simp [State.A]
@[simp] theorem State.setF_F (v : Byte) : (s.setF v).F = v &&& 0xF0 := by
  simp [State.F, BitVec.and_assoc]
@[simp] theorem State.setFlags_A (z n h c : Bool) : (s.setFlags z n h c).A = s.A := by simp [State.setFlags]

@[simp] theorem packFlags_masked (z n h c : Bool) : packFlags z n h c &&& 240#8 = packFlags z n h c := by
  revert z n h c; decide

@[simp] theorem State.setFlags_F (z n h c : Bool) : (s.setFlags z n h c).F = packFlags z n h c := by
  simp [State.setFlags]

@[simp] theorem packFlags_bit7 (z n h c : Bool) : (packFlags z n h c)[7] = z := by revert z n h c; decide
@[simp] theorem packFlags_bit6 (z n h c : Bool) : (packFlags z n h c)[6] = n := by revert z n h c; decide
@[simp] theorem packFlags_bit5 (z n h c : Bool) : (packFlags z n h c)[5] = h := by revert z n h c; decide
@[simp] theorem packFlags_bit4 (z n h c : Bool) : (packFlags z n h c)[4] = c := by revert z n h c; decide

@[simp] theorem State.setFlags_fZ (z n h c : Bool) : (s.setFlags z n h c).fZ = z := by simp [State.fZ]
@[simp] theorem State.setFlags_fN (z n h c : Bool) : (s.setFlags z n h c).fN = n := by simp [State.fN]
@[simp] theorem State.setFlags_fH (z n h c : Bool) : (s.setFlags z n h c).fH = h := by simp [State.fH]
@[simp] theorem State.setFlags_fC (z n h c : Bool) : (s.setFlags z n h c).fC = c := by simp [State.fC]

/-- F holds the four flags and nothing else (10_state.md R33, R34). -/
theorem State.F_eq_packFlags : s.F = packFlags s.fZ s.fN s.fH s.fC := by
  have h : ∀ b : Byte, b &&& 0xF0 = packFlags ((b &&& 0xF0).getLsbD 7) ((b &&& 0xF0).getLsbD 6)
      ((b &&& 0xF0).getLsbD 5) ((b &&& 0xF0).getLsbD 4) := by decide
  exact h (loByte s.af)

@[simp] theorem State.setFZ_fZ (b : Bool) : (s.setFZ b).fZ = b := by
  simp only [State.fZ, State.setFZ, State.setF_F]
  revert b; generalize s.F = f; revert f; decide
@[simp] theorem State.setFZ_fN (b : Bool) : (s.setFZ b).fN = s.fN := by
  simp only [State.fN, State.setFZ, State.setF_F]
  revert b; generalize s.F = f; revert f; decide
@[simp] theorem State.setFZ_fH (b : Bool) : (s.setFZ b).fH = s.fH := by
  simp only [State.fH, State.setFZ, State.setF_F]
  revert b; generalize s.F = f; revert f; decide
@[simp] theorem State.setFZ_fC (b : Bool) : (s.setFZ b).fC = s.fC := by
  simp only [State.fC, State.setFZ, State.setF_F]
  revert b; generalize s.F = f; revert f; decide
@[simp] theorem State.setFZ_A (b : Bool) : (s.setFZ b).A = s.A := by simp [State.setFZ]
@[simp] theorem State.setFN_fZ (b : Bool) : (s.setFN b).fZ = s.fZ := by
  simp only [State.fZ, State.setFN, State.setF_F]
  revert b; generalize s.F = f; revert f; decide
@[simp] theorem State.setFN_fN (b : Bool) : (s.setFN b).fN = b := by
  simp only [State.fN, State.setFN, State.setF_F]
  revert b; generalize s.F = f; revert f; decide
@[simp] theorem State.setFN_fH (b : Bool) : (s.setFN b).fH = s.fH := by
  simp only [State.fH, State.setFN, State.setF_F]
  revert b; generalize s.F = f; revert f; decide
@[simp] theorem State.setFN_fC (b : Bool) : (s.setFN b).fC = s.fC := by
  simp only [State.fC, State.setFN, State.setF_F]
  revert b; generalize s.F = f; revert f; decide
@[simp] theorem State.setFN_A (b : Bool) : (s.setFN b).A = s.A := by simp [State.setFN]
@[simp] theorem State.setFH_fZ (b : Bool) : (s.setFH b).fZ = s.fZ := by
  simp only [State.fZ, State.setFH, State.setF_F]
  revert b; generalize s.F = f; revert f; decide
@[simp] theorem State.setFH_fN (b : Bool) : (s.setFH b).fN = s.fN := by
  simp only [State.fN, State.setFH, State.setF_F]
  revert b; generalize s.F = f; revert f; decide
@[simp] theorem State.setFH_fH (b : Bool) : (s.setFH b).fH = b := by
  simp only [State.fH, State.setFH, State.setF_F]
  revert b; generalize s.F = f; revert f; decide
@[simp] theorem State.setFH_fC (b : Bool) : (s.setFH b).fC = s.fC := by
  simp only [State.fC, State.setFH, State.setF_F]
  revert b; generalize s.F = f; revert f; decide
@[simp] theorem State.setFH_A (b : Bool) : (s.setFH b).A = s.A := by simp [State.setFH]
@[simp] theorem State.setFC_fZ (b : Bool) : (s.setFC b).fZ = s.fZ := by
  simp only [State.fZ, State.setFC, State.setF_F]
  revert b; generalize s.F = f; revert f; decide
@[simp] theorem State.setFC_fN (b : Bool) : (s.setFC b).fN = s.fN := by
  simp only [State.fN, State.setFC, State.setF_F]
  revert b; generalize s.F = f; revert f; decide
@[simp] theorem State.setFC_fH (b : Bool) : (s.setFC b).fH = s.fH := by
  simp only [State.fH, State.setFC, State.setF_F]
  revert b; generalize s.F = f; revert f; decide
@[simp] theorem State.setFC_fC (b : Bool) : (s.setFC b).fC = b := by
  simp only [State.fC, State.setFC, State.setF_F]
  revert b; generalize s.F = f; revert f; decide
@[simp] theorem State.setFC_A (b : Bool) : (s.setFC b).A = s.A := by simp [State.setFC]

end AF

/-! ### Register operands -/

/-- A register operand is read from the register file alone; `[HL]` by a bus read. -/
theorem r8get_reg {r : R8} (h : r ≠ .atHL) (s : State) : ∃ v, r8get r s = .ok (v, s) := by
  cases r <;> first | exact absurd rfl h | exact ⟨_, rfl⟩

/-- Writing a register operand changes the register file alone. -/
theorem r8set_reg {r : R8} (h : r ≠ .atHL) (v : Byte) (s : State) :
    ∃ t, r8set r v s = .ok t ∧ r8get r t = .ok (v, t) ∧
      t = { s with af := t.af, bc := t.bc, de := t.de, hl := t.hl } := by
  cases r <;> first
    | exact absurd rfl h
    | exact ⟨_, rfl, by simp [r8get, State.B, State.C, State.D, State.E, State.H, State.L], rfl⟩

end Sys2Proof.Machine
end

