-- ==== Sys2Proof/Laws/Ops.lean ====
section
/-! SUPPORT. What each shared operation can do, said once: the operands, the stack, the fetch, the interrupt logic and the
step. A proof about a meaning cites these and unfolds no bus access. -/

namespace Sys2Proof.Machine

/-! ### Results of a sequence of fallible operations -/

theorem bind_eq_ok {α β : Type} {x : Except Fault α} {f : α → Except Fault β} {b : β} :
    (x >>= f) = .ok b ↔ ∃ a, x = .ok a ∧ f a = .ok b := by
  cases x with
  | error e => simp [bind, Except.bind]
  | ok a => simp [bind, Except.bind]

theorem bind_eq_error {α β : Type} {x : Except Fault α} {f : α → Except Fault β} {e : Fault} :
    (x >>= f) = .error e ↔ x = .error e ∨ ∃ a, x = .ok a ∧ f a = .error e := by
  cases x with
  | error e' => simp [bind, Except.bind]
  | ok a => simp [bind, Except.bind]

@[simp] theorem ok_bind {α β : Type} (a : α) (f : α → Except Fault β) :
    ((Except.ok a : Except Fault α) >>= f) = f a := rfl

@[simp] theorem error_bind {α β : Type} (e : Fault) (f : α → Except Fault β) :
    ((Except.error e : Except Fault α) >>= f) = .error e := rfl

@[simp] theorem outcome_ok (s : State) : outcome (.ok s) = .next s := rfl
@[simp] theorem outcome_error (f : Fault) : outcome (.error f) = .fault f := rfl

theorem outcome_eq_next {x : Except Fault State} {t : State} : outcome x = .next t ↔ x = .ok t := by
  cases x <;> simp [outcome]

theorem outcome_eq_fault {x : Except Fault State} {f : Fault} : outcome x = .fault f ↔ x = .error f := by
  cases x <;> simp [outcome]

theorem outcome_ne_refused {x : Except Fault State} {r : Refusal} : outcome x ≠ .refused r := by
  cases x <;> simp [outcome]

/-! ### The bus does not look at the core -/

/-- The bus part of `s` under the core part of `c`. -/
def State.withCore (s c : State) : State :=
  { c with mem := s.mem, cart := s.cart, io := s.io, video := s.video, wramx := s.wramx, ext := s.ext }

theorem busRead_withCore (a : Word) (s c : State) :
    busRead a (s.withCore c) = (busRead a s).map fun p => (p.1, p.2.withCore c) := by
  unfold busRead
  have hx : (s.withCore c).accessOf a = s.accessOf a := rfl
  have hk : (s.withCore c).kept a = s.kept a := rfl
  have he : (s.withCore c).ext = s.ext := rfl
  rw [hx, hk, he]
  cases s.accessOf a <;> first | rfl | (dsimp only; split <;> rfl)

theorem busWrite_withCore (a : Word) (v : Byte) (s c : State) :
    busWrite a v (s.withCore c) = (busWrite a v s).map fun p => p.withCore c := by
  unfold busWrite
  have hx : (s.withCore c).accessOf a = s.accessOf a := rfl
  have hk : (s.withCore c).kept a = s.kept a := rfl
  have he : (s.withCore c).ext = s.ext := rfl
  rw [hx, hk, he]
  cases s.accessOf a <;> first | rfl | (dsimp only; split <;> rfl)

theorem busPeek_withCore (a : Word) (s c : State) : busPeek a (s.withCore c) = busPeek a s := rfl

/-- A state with other registers and the same bus is the bus under those registers. -/
theorem withCore_self (s : State) : s.withCore s = s := rfl

/-- The read in a state with other registers. -/
theorem busRead_core {a : Word} {s c : State} (h : c = s.withCore c) :
    busRead a c = (busRead a s).map fun p => (p.1, p.2.withCore c) := by
  conv_lhs => rw [h]
  exact busRead_withCore a s c

theorem busWrite_core {a : Word} {v : Byte} {s c : State} (h : c = s.withCore c) :
    busWrite a v c = (busWrite a v s).map fun p => p.withCore c := by
  conv_lhs => rw [h]
  exact busWrite_withCore a v s c

/-! ### Operands -/

/-- Everything an operand read can do. -/
theorem r8get_ok {r : R8} {s t : State} {v : Byte} (h : r8get r s = .ok (v, t)) : t = { s with ext := t.ext } := by
  cases r with
  | atHL => exact busRead_ok h
  | _ => cases h; rfl

/-- Everything an operand write can do: a register changes one pair, `[HL]` one byte of storage. -/
theorem r8set_ok {r : R8} {s t : State} {v : Byte} (h : r8set r v s = .ok t) :
    t = { s with af := t.af, bc := t.bc, de := t.de, hl := t.hl, mem := t.mem, ext := t.ext } ∧ t.F = s.F := by
  cases r with
  | atHL => rw [(busWrite_ok h).1]; exact ⟨rfl, rfl⟩
  | a => cases h; exact ⟨rfl, State.setA_F s v⟩
  | _ => cases h; exact ⟨rfl, rfl⟩

theorem r8get_keeps {r : R8} {s t : State} {v : Byte} (h : r8get r s = .ok (v, t)) (hs : StateInv s) : StateInv t := by
  rw [r8get_ok h]; exact hs

theorem flagsOk_join {hi lo : Byte} (h : lo &&& 0x0F = 0) : join hi lo &&& 0x000F = 0 := by
  have : (0x000F : Word) = join 0x00 0x0F := by decide
  rw [this, join_and, h]
  have : hi &&& 0x00 = 0 := by simp
  rw [this]; decide

theorem flagsOk_lo {w : Word} (h : w &&& 0x000F = 0) : loByte w &&& 0x0F = 0 := by
  have : loByte (w &&& 0x000F) = 0 := by rw [h]; rfl
  rw [loByte_and] at this
  exact this

/-- A new A keeps F[3:0] zero. -/
theorem StateInv.setA {s : State} (hs : StateInv s) (v : Byte) : StateInv (s.setA v) := by
  refine ⟨hs.1, hs.2.1, ?_⟩
  have := hs.2.2
  simp only [State.flagsOk, beq_iff_eq, State.setA] at *
  exact flagsOk_join (flagsOk_lo this)

theorem StateInv.setF {s : State} (hs : StateInv s) (v : Byte) : StateInv (s.setF v) := by
  refine ⟨hs.1, hs.2.1, ?_⟩
  simp only [State.flagsOk, beq_iff_eq, State.setF]
  exact flagsOk_join (by rw [BitVec.and_assoc]; simp)

theorem StateInv.setAF {s : State} (hs : StateInv s) (v : Word) : StateInv (s.setAF v) := by
  refine ⟨hs.1, hs.2.1, ?_⟩
  simp only [State.flagsOk, beq_iff_eq, State.setAF]
  rw [BitVec.and_assoc]; simp

theorem StateInv.setFlags {s : State} (hs : StateInv s) (z n h c : Bool) : StateInv (s.setFlags z n h c) := hs.setF _

/-- The invariant reads nothing but AF and storage. -/
theorem StateInv.of_eq {s t : State} (hs : StateInv s) (haf : t.af = s.af) (hm : t.mem = s.mem) : StateInv t := by
  obtain ⟨h1, h2, h3⟩ := hs
  exact ⟨by rw [hm]; exact h1, by unfold State.storageOk; rw [hm]; exact h2, by unfold State.flagsOk; rw [haf]; exact h3⟩

theorem r8set_keeps {r : R8} {s t : State} {v : Byte} (h : r8set r v s = .ok t) (hs : StateInv s) : StateInv t := by
  cases r with
  | atHL => exact busWrite_keeps h hs
  | a => cases h; exact hs.setA v
  | _ => cases h; exact hs.of_eq rfl rfl

/-! ### The stack -/

/-- A push is its two writes, SP two lower (00_scope.md R15). -/
theorem push16_eq (v : Word) (s : State) :
    push16 v s = (pushWrites v s).map fun t => { t with sp := s.sp - 2 } := by
  unfold push16 pushWrites
  dsimp only
  rw [busWrite_core (s := s) (c := s.setSP (s.sp - 1)) rfl]
  cases h1 : busWrite (s.setSP (s.sp - 1)).sp (hiByte v) s with
  | error f => rw [show (s.setSP (s.sp - 1)).sp = s.sp - 1 from rfl] at h1; rw [h1]; rfl
  | ok s1 =>
    rw [show (s.setSP (s.sp - 1)).sp = s.sp - 1 from rfl] at h1
    rw [h1]
    simp only [Except.map, ok_bind]
    have e : s.sp - 1 - 1 = s.sp - 2 := by rw [BitVec.sub_sub]; rfl
    have hs : ((s1.withCore (s.setSP (s.sp - 1))).setSP ((s1.withCore (s.setSP (s.sp - 1))).sp - 1)) =
        { s1 with sp := s.sp - 2 } := by
      rw [(busWrite_ok h1).1]
      simp only [State.withCore, State.setSP, e]
    rw [hs, busWrite_core (s := s1) (c := { s1 with sp := s.sp - 2 }) rfl]
    cases h2 : busWrite (s.sp - 2) (loByte v) s1 with
    | error f => rfl
    | ok s2 =>
      simp only [Except.map]
      rw [(busWrite_ok h2).1]; rfl

/-- A pop is its two reads, SP two higher (00_scope.md R15). -/
theorem pop16_eq (s : State) :
    pop16 s = (popReads s).map fun p => (p.1, { p.2 with sp := s.sp + 2 }) := by
  unfold pop16 popReads
  cases h1 : busRead s.sp s with
  | error f => rfl
  | ok p =>
    obtain ⟨lo, s1⟩ := p
    simp only [ok_bind]
    have e : s.sp + 1 + 1 = s.sp + 2 := by rw [BitVec.add_assoc]; rfl
    have hs : s1.setSP (s1.sp + 1) = { s1 with sp := s.sp + 1 } := by rw [busRead_ok h1]; rfl
    rw [hs, busRead_core (s := s1) (c := { s1 with sp := s.sp + 1 }) rfl]
    cases h2 : busRead (s.sp + 1) s1 with
    | error f => rfl
    | ok q =>
      obtain ⟨hi, s2⟩ := q
      simp only [Except.map, ok_bind]
      rw [busRead_ok h2]
      simp only [State.withCore, State.setSP, e]

theorem pushWrites_ok {v : Word} {s t : State} (h : pushWrites v s = .ok t) :
    t = { s with mem := t.mem, ext := t.ext } := by
  unfold pushWrites at h
  obtain ⟨s1, h1, h2⟩ := bind_eq_ok.1 h
  rw [(busWrite_ok h2).1, (busWrite_ok h1).1]

theorem pushWrites_keeps {v : Word} {s t : State} (h : pushWrites v s = .ok t) (hs : StateInv s) : StateInv t := by
  unfold pushWrites at h
  obtain ⟨s1, h1, h2⟩ := bind_eq_ok.1 h
  exact busWrite_keeps h2 (busWrite_keeps h1 hs)

theorem popReads_ok {s t : State} {w : Word} (h : popReads s = .ok (w, t)) : t = { s with ext := t.ext } := by
  unfold popReads at h
  obtain ⟨⟨lo, s1⟩, h1, h2⟩ := bind_eq_ok.1 h
  obtain ⟨⟨hi, s2⟩, h3, h4⟩ := bind_eq_ok.1 h2
  cases h4
  rw [busRead_ok h3, busRead_ok h1]

theorem push16_keeps {v : Word} {s t : State} (h : push16 v s = .ok t) (hs : StateInv s) : StateInv t := by
  rw [push16_eq] at h
  cases hp : pushWrites v s with
  | error f => rw [hp] at h; cases h
  | ok u => rw [hp] at h; cases h; exact (pushWrites_keeps hp hs).of_eq rfl rfl

theorem pop16_keeps {s t : State} {w : Word} (h : pop16 s = .ok (w, t)) (hs : StateInv s) : StateInv t := by
  rw [pop16_eq] at h
  cases hp : popReads s with
  | error f => rw [hp] at h; cases h
  | ok u =>
    rw [hp] at h; cases h
    have := popReads_ok hp
    exact hs.of_eq (by show u.2.af = s.af; rw [this]) (by show u.2.mem = s.mem; rw [this])

/-! ### Fetch -/

/-- Everything a fetch of one byte can do (00_scope.md R14). -/
theorem fetch8_ok {s t : State} {v : Byte} (h : fetch8 s = .ok (v, t)) :
    t = { s with pc := s.pc + 1, ext := t.ext } := by
  unfold fetch8 at h
  obtain ⟨⟨v', s1⟩, h1, h2⟩ := bind_eq_ok.1 h
  cases h2
  rw [busRead_ok h1]; rfl

theorem fetchBytes_ok {n : Nat} {s t : State} {bs : List Byte} (h : fetchBytes n s = .ok (bs, t)) :
    t = { s with pc := s.pc + BitVec.ofNat 16 n, ext := t.ext } ∧ bs.length = n := by
  induction n generalizing s bs with
  | zero => cases h; exact ⟨by simp, rfl⟩
  | succ n ih =>
    unfold fetchBytes at h
    obtain ⟨⟨v, s1⟩, h1, h2⟩ := bind_eq_ok.1 h
    obtain ⟨⟨vs, s2⟩, h3, h4⟩ := bind_eq_ok.1 h2
    cases h4
    obtain ⟨e, hl⟩ := ih h3
    refine ⟨?_, by simp [hl]⟩
    rw [e, fetch8_ok h1]
    have : s.pc + 1 + BitVec.ofNat 16 n = s.pc + BitVec.ofNat 16 (n + 1) := by
      rw [BitVec.add_assoc, BitVec.add_comm 1, BitVec.ofNat_add]; rfl
    simp only [this]

theorem fetchInstr_ok {s t : State} {i : Instr} (h : fetchInstr s = .ok (i, t)) :
    t = { s with pc := t.pc, ext := t.ext } := by
  unfold fetchInstr at h
  obtain ⟨⟨op, s1⟩, h1, h2⟩ := bind_eq_ok.1 h
  obtain ⟨⟨vs, s2⟩, h3, h4⟩ := bind_eq_ok.1 h2
  cases h4
  rw [(fetchBytes_ok h3).1, fetch8_ok h1]

/-! ### The interrupt logic and the step -/

theorem interruptEntry_keeps {p : Byte} {s t : State} (h : interruptEntry p s = .ok t) (hs : StateInv s) : StateInv t := by
  unfold interruptEntry at h
  obtain ⟨s1, h1, h⟩ := bind_eq_ok.1 h
  obtain ⟨⟨v, s2⟩, h2, h⟩ := bind_eq_ok.1 h
  obtain ⟨s3, h3, h⟩ := bind_eq_ok.1 h
  cases h
  have h0 : StateInv ((s.setIME false).setEiDelay false) := hs.of_eq rfl rfl
  exact (busWrite_keeps h3 (busRead_keeps h2 (push16_keeps h1 h0))).of_eq rfl rfl

theorem promoteEi_cases (b : Bool) (s : State) :
    promoteEi b s = s ∨ promoteEi b s = { s with ime := true, eiDelay := false } := by
  unfold promoteEi
  split
  · exact .inr rfl
  · exact .inl rfl

/-- Everything a step that answers a next state can do (30_encoding.md R110): idle, take an interrupt, or run one
instruction. -/
theorem step_cases {s t : State} (h : step s = .next t) :
    (∃ p, pendingAtStart s = .ok p ∧ s.halted = true ∧ p = 0 ∧ t = idle s) ∨
    (∃ p, pendingAtStart s = .ok p ∧ p ≠ 0 ∧ s.ime = true ∧ interruptEntry p (s.setHalted false) = .ok t) ∨
    (runsInstruction s ∧ ∃ i s1 u, fetchInstr (s.setHalted false) = .ok (i, s1) ∧ exec i s1 = .next u ∧
      t = promoteEi s.eiDelay u) := by
  unfold step stepWith at h
  split at h
  · cases h
  · rename_i p hp
    split at h
    · rename_i hi
      simp only [Bool.and_eq_true, beq_iff_eq] at hi
      cases h
      exact .inl ⟨p, hp, hi.1, hi.2, rfl⟩
    · rename_i hi
      split at h
      · rename_i hm
        simp only [Bool.and_eq_true, bne_iff_ne] at hm
        exact .inr (.inl ⟨p, hp, hm.2, hm.1, outcome_eq_next.1 h⟩)
      · rename_i hm
        split at h
        · cases h
        · rename_i i s1 hf
          refine .inr (.inr ⟨⟨p, hp, ?_, ?_⟩, ?_⟩)
          · intro hh h0; exact hi (by simp [hh, h0])
          · intro hh; by_contra h0; exact hm (by rw [hh, bne_iff_ne.2 h0]; rfl)
          · cases he : exec i s1 with
            | next u => rw [he] at h; cases h; exact ⟨i, s1, u, hf, he, rfl⟩
            | fault f => rw [he] at h; cases h
            | refused r => rw [he] at h; cases h

/-- A step that runs an instruction, as an equation. -/
theorem step_runs {s : State} (h : runsInstruction s) :
    step s =
      match fetchInstr (s.setHalted false) with
      | .error f => .fault f
      | .ok (i, s1) => afterInstr s.eiDelay (exec i s1) := by
  obtain ⟨p, hp, hh, hi⟩ := h
  unfold step stepWith
  rw [hp]
  dsimp only
  have h1 : (s.halted && p == 0) = false := by
    cases hs : s.halted with
    | false => rfl
    | true => simpa using hh hs
  have h2 : (s.ime && p != 0) = false := by
    cases hs : s.ime with
    | false => rfl
    | true => simpa using hi hs
  rw [h1, h2]
  rfl

/-! ### Effects as the statements name them -/

/-- `F <- z:n:h:c:0000` in the words of `flagsAre`. -/
theorem flagsAre_setFlags (s : State) (z n h c : Bool) : (s.setFlags z n h c).flagsAre z n h c := by
  refine ⟨?_, ?_, ?_, ?_⟩ <;> simp

theorem cyclesOf_eq (r : R8) (reg mem : Nat) : cyclesOf r reg mem = if r = .atHL then mem else reg := by cases r <;> rfl

/-- What an accepted write of one byte leaves: everything but the bytes of storage behind its address. -/
theorem busWrite_frame {a : Word} {v : Byte} {s t : State} (h : busWrite a v s = .ok t) :
    t = { s with mem := t.mem, ext := t.ext } ∧ ∀ k, k % 0x10000 ≠ echoFold a → t.mem.read k = s.mem.read k :=
  ⟨(busWrite_ok h).1, fun k hk => busWrite_other h fun c => hk (by rw [c, keyOf_mod])⟩

/-- Everything a write of an 8-bit operand can do to the registers: the other seven are unchanged. -/
theorem r8set_frame {r : R8} {v : Byte} {s t : State} (h : r8set r v s = .ok t) :
    (r ≠ .a → t.A = s.A) ∧ (r ≠ .b → t.B = s.B) ∧ (r ≠ .c → t.C = s.C) ∧ (r ≠ .d → t.D = s.D) ∧ (r ≠ .e → t.E = s.E) ∧
      (r ≠ .h → t.H = s.H) ∧ (r ≠ .l → t.L = s.L) ∧
      ∀ k : Nat, (r = .atHL → k % 0x10000 ≠ echoFold s.hl) → t.mem.read k = s.mem.read k := by
  cases r with
  | atHL =>
    obtain ⟨e, hk⟩ := busWrite_frame (show busWrite s.hl v s = .ok t from h)
    refine ⟨?_, ?_, ?_, ?_, ?_, ?_, ?_, fun k hr => hk k (hr rfl)⟩ <;> intro _ <;> rw [e] <;> rfl
  | _ =>
    cases h
    and_intros <;> intros <;> first | rfl | contradiction | simp [State.B, State.C, State.D, State.E, State.H, State.L,
      State.setB, State.setC, State.setD, State.setE, State.setH, State.setL]

/-- The two writes of a push in a state with other registers and the same SP. -/
theorem pushWrites_core {w : Word} {s c : State} (h : c = s.withCore c) (hs : c.sp = s.sp) :
    pushWrites w c = (pushWrites w s).map fun t => t.withCore c := by
  unfold pushWrites
  rw [hs, busWrite_core h]
  cases h1 : busWrite (s.sp - 1) (hiByte w) s with
  | error f => rfl
  | ok s1 =>
    simp only [Except.map, ok_bind]
    rw [busWrite_core (s := s1) rfl]
    cases busWrite (s.sp - 2) (loByte w) s1 <;> rfl

/-- Everything a push can do. -/
theorem push16_ok {w : Word} {s t : State} (h : push16 w s = .ok t) :
    ∃ u, pushWrites w s = .ok u ∧ t = { u with sp := s.sp - 2 } := by
  rw [push16_eq] at h
  cases hp : pushWrites w s with
  | error f => rw [hp] at h; cases h
  | ok u => rw [hp] at h; cases h; exact ⟨u, rfl, rfl⟩

/-- Everything a pop can do. -/
theorem pop16_ok {w : Word} {s t : State} (h : pop16 s = .ok (w, t)) : t = { s with ext := t.ext, sp := s.sp + 2 } := by
  rw [pop16_eq] at h
  cases hp : popReads s with
  | error f => rw [hp] at h; cases h
  | ok u => rw [hp] at h; cases h; rw [popReads_ok hp]

/-- What an ALU operation gives: the result in A unless the operation is CP, and the four flags. -/
theorem aluEffect_spec (op : AluOp) (v : Byte) (s : State) :
    let x := aluResult op s.A v s.fC
    aluEffect op v s = { s with af := (aluEffect op v s).af } ∧
      (aluEffect op v s).A = (if aluWrites op then x.r else s.A) ∧ (aluEffect op v s).flagsAre x.z x.n x.h x.c := by
  refine ⟨?_, ?_, flagsAre_setFlags _ _ _ _ _⟩
  · unfold aluEffect; dsimp only; split <;> rfl
  · unfold aluEffect; dsimp only; rw [State.setFlags_A]; split <;> simp

/-- The bit the priority picks among the pending interrupts (60_exceptions.md R384). -/
theorem lowestSetBit_spec {p : Byte} (h : p ≠ 0) (h5 : p &&& 0x1F = p) :
    lowestSetBit p < 5 ∧ p.getLsbD (lowestSetBit p) = true ∧ ∀ j, j < lowestSetBit p → p.getLsbD j = false := by
  have key : ∀ p : Byte, p ≠ 0 → p &&& 0x1F = p →
      lowestSetBit p < 5 ∧ p.getLsbD (lowestSetBit p) = true ∧ ∀ j < 5, j < lowestSetBit p → p.getLsbD j = false := by decide
  obtain ⟨a, b, c⟩ := key p h h5
  exact ⟨a, b, fun j hj => c j (by omega) hj⟩

/-- A step that takes an interrupt, as an equation. -/
theorem step_entry {s : State} {p : Byte} (hi : s.ime = true) (hp : irqPending s = .ok p) (h0 : p ≠ 0) :
    step s = outcome (interruptEntry p (s.setHalted false)) := by
  unfold step stepWith pendingAtStart
  rw [hi]
  simp only [Bool.or_true, if_true]
  rw [hp]
  dsimp only
  rw [show (p == 0) = false from by simpa using h0, show (p != 0) = true from by simpa using h0]
  simp

/-- With the reference devices every access is accepted. -/
theorem busRead_reference {s : State} (h : s.referenceDevices) (a : Word) : ∃ w, busRead a s = .ok (w, s) := by
  obtain ⟨h1, h2⟩ := referenceDevices_access h a
  unfold busRead
  cases hx : s.accessOf a <;> first | exact ⟨_, rfl⟩ | exact absurd hx (h1 _) | exact absurd hx h2

theorem busWrite_reference {s : State} (h : s.referenceDevices) (a : Word) (v : Byte) :
    ∃ t, busWrite a v s = .ok t ∧ t.referenceDevices := by
  obtain ⟨h1, h2⟩ := referenceDevices_access h a
  unfold busWrite
  cases hx : s.accessOf a <;> first | exact ⟨_, rfl, h⟩ | exact absurd hx (h1 _) | exact absurd hx h2

end Sys2Proof.Machine
end

