-- ==== Sys2Proof/Laws/Decode.lean ====
section
/-! SUPPORT. What the decoder answers on an input long enough, and that a fetch of an instruction's bytes decodes them. -/

namespace Sys2Proof.Machine

theorem instrLength_pos (op : Byte) : 1 ≤ instrLength op := by
  unfold instrLength; split <;> [skip; split] <;> omega

theorem decode_cons {op : Byte} {rest : List Byte} (h : instrLength op ≤ rest.length + 1) :
    decode (op :: rest) =
      .ok (decodeInstr op (rest.getD 0 0) (rest.getD 1 0), rest.drop (instrLength op - 1)) := by
  have hl := instrLength_pos op
  unfold decode; dsimp only; rw [if_neg (by omega)]

theorem decode_one {op : Byte} {rest : List Byte} (h : instrLength op = 1) :
    decode ([op] ++ rest) = .ok (decodeInstr op (rest.getD 0 0) (rest.getD 1 0), rest) := by
  have := decode_cons (op := op) (rest := rest) (by omega)
  rw [h] at this; exact this

theorem decode_two {op b : Byte} {rest : List Byte} (h : instrLength op = 2) :
    decode ([op, b] ++ rest) = .ok (decodeInstr op b (rest.getD 0 0), rest) := by
  have := decode_cons (op := op) (rest := b :: rest) (by simp; omega)
  rw [h] at this; exact this

theorem decode_three {op b c : Byte} {rest : List Byte} (h : instrLength op = 3) :
    decode ([op, b, c] ++ rest) = .ok (decodeInstr op b c, rest) := by
  have := decode_cons (op := op) (rest := b :: c :: rest) (by simp; omega)
  rw [h] at this; exact this

/-- The fetch of a whole instruction gives what its bytes decode to (30_encoding.md R112). -/
theorem fetchInstr_of_bytes {s s1 : State} {bytes : List Byte} {i : Instr} (hd : decode bytes = .ok (i, []))
    (hf : fetchBytes bytes.length s = .ok (bytes, s1)) : fetchInstr s = .ok (i, s1) := by
  cases bytes with
  | nil => cases hd
  | cons op tl =>
    have hl := instrLength_pos op
    unfold decode at hd
    dsimp only at hd
    split at hd
    · cases hd
    · rename_i hlt
      simp only [Except.ok.injEq, Prod.mk.injEq] at hd
      obtain ⟨hi, hr⟩ := hd
      have hlen : tl.length = instrLength op - 1 := by
        have := congrArg List.length hr
        simp at this; omega
      unfold fetchBytes at hf
      obtain ⟨⟨v, t1⟩, h1, h2⟩ := bind_eq_ok.1 hf
      obtain ⟨⟨vs, t2⟩, h3, h4⟩ := bind_eq_ok.1 h2
      simp only [Except.ok.injEq, Prod.mk.injEq, List.cons.injEq] at h4
      obtain ⟨⟨rfl, rfl⟩, rfl⟩ := h4
      unfold fetchInstr
      rw [h1, ok_bind]
      dsimp only
      rw [← hlen]
      change fetchBytes vs.length t1 = _ at h3
      rw [h3, ok_bind]
      dsimp only
      rw [hi]

end Sys2Proof.Machine
end

