-- ==== Sys2Proof/Laws/Forms.lean ====
section
/-! SUPPORT. The instructions by their forms: what `exec` calls for each form, and the case split of a statement about
every instruction into the forms. -/

namespace Sys2Proof

namespace Machine

/-- What `exec` calls for each form: one lemma per form, so that no proof unfolds the dispatch. -/
theorem exec_mkLd {dst src : R8} (h : ¬(dst = .atHL ∧ src = .atHL)) (s : State) :
    exec (mkLd dst src) s = outcome (load8 dst src s) := by
  cases dst <;> cases src <;> first | rfl | exact absurd ⟨rfl, rfl⟩ h

theorem exec_mkLdImm (dst : R8) (n : Byte) (s : State) : exec (mkLdImm dst n) s = outcome (loadImm dst n s) := by
  cases dst <;> rfl

theorem exec_mkLdR16 (rp : R16) (n : Word) (s : State) : exec (mkLdR16 rp n) s = outcome (loadR16 rp n s) := by
  cases rp <;> rfl

theorem exec_mkStoreMem (rp : R16Mem) (s : State) : exec (mkStoreMem rp) s = outcome (storeMem rp s) := by
  cases rp <;> rfl

theorem exec_mkLoadMem (rp : R16Mem) (s : State) : exec (mkLoadMem rp) s = outcome (loadMem rp s) := by
  cases rp <;> rfl

theorem exec_mkIncR16 (rp : R16) (s : State) : exec (mkIncR16 rp) s = outcome (incR16 rp s) := by
  cases rp <;> rfl

theorem exec_mkDecR16 (rp : R16) (s : State) : exec (mkDecR16 rp) s = outcome (decR16 rp s) := by
  cases rp <;> rfl

theorem exec_mkAddHL (rp : R16) (s : State) : exec (mkAddHL rp) s = outcome (addHL rp s) := by
  cases rp <;> rfl

theorem exec_mkInc8 (dst : R8) (s : State) : exec (mkInc8 dst) s = outcome (inc8 dst s) := by
  cases dst <;> rfl

theorem exec_mkDec8 (dst : R8) (s : State) : exec (mkDec8 dst) s = outcome (dec8 dst s) := by
  cases dst <;> rfl

theorem exec_mkJrIf (cc : Cond) (e : Byte) (s : State) : exec (mkJrIf cc e) s = outcome (jumpRelIf cc e s) := by
  cases cc <;> rfl

theorem exec_mkRetIf (cc : Cond) (s : State) : exec (mkRetIf cc) s = outcome (retIf cc s) := by
  cases cc <;> rfl

theorem exec_mkJpIf (cc : Cond) (n : Word) (s : State) : exec (mkJpIf cc n) s = outcome (jumpIf cc n s) := by
  cases cc <;> rfl

theorem exec_mkCallIf (cc : Cond) (n : Word) (s : State) : exec (mkCallIf cc n) s = outcome (callIf cc n s) := by
  cases cc <;> rfl

theorem exec_mkPop (rp : R16Stk) (s : State) : exec (mkPop rp) s = outcome (pop rp s) := by
  cases rp <;> rfl

theorem exec_mkPush (rp : R16Stk) (s : State) : exec (mkPush rp) s = outcome (push rp s) := by
  cases rp <;> rfl

theorem exec_mkRst (t : Ix3) (s : State) : exec (mkRst t) s = outcome (restart t s) := by
  cases t <;> rfl

theorem exec_mkAlu (op : AluOp) (src : R8) (s : State) : exec (mkAlu op src) s = outcome (alu8 op src s) := by
  cases op <;> cases src <;> rfl

theorem exec_mkAluImm (op : AluOp) (n : Byte) (s : State) : exec (mkAluImm op n) s = outcome (aluImm op n s) := by
  cases op <;> rfl

theorem exec_mkRot (k : RotOp) (r : R8) (s : State) : exec (mkRot k r) s = outcome (rotate8 k r s) := by
  cases k <;> cases r <;> rfl

theorem exec_mkBit (b : Ix3) (r : R8) (s : State) : exec (mkBit b r) s = outcome (testBit b r s) := by
  cases b <;> cases r <;> rfl

theorem exec_mkRes (b : Ix3) (r : R8) (s : State) : exec (mkRes b r) s = outcome (resetBit b r s) := by
  cases b <;> cases r <;> rfl

theorem exec_mkSet (b : Ix3) (r : R8) (s : State) : exec (mkSet b r) s = outcome (setBit b r s) := by
  cases b <;> cases r <;> rfl

end Machine

open Machine in
/-- Every instruction of the machine is one of the forms of 30_encoding.md R128 to R132: to prove something of all of them
it is enough to prove it of the forms. -/
theorem Instr.formCases {P : Instr → Prop}
    (ld : ∀ dst src, ¬(dst = .atHL ∧ src = .atHL) → P (mkLd dst src))
    (ldImm : ∀ dst n, P (mkLdImm dst n))
    (ldR16 : ∀ rp n, P (mkLdR16 rp n))
    (storeMem : ∀ rp, P (mkStoreMem rp))
    (loadMem : ∀ rp, P (mkLoadMem rp))
    (incR16 : ∀ rp, P (mkIncR16 rp))
    (decR16 : ∀ rp, P (mkDecR16 rp))
    (addHL : ∀ rp, P (mkAddHL rp))
    (inc8 : ∀ dst, P (mkInc8 dst))
    (dec8 : ∀ dst, P (mkDec8 dst))
    (jrIf : ∀ cc e, P (mkJrIf cc e))
    (retIf : ∀ cc, P (mkRetIf cc))
    (jpIf : ∀ cc n, P (mkJpIf cc n))
    (callIf : ∀ cc n, P (mkCallIf cc n))
    (pop : ∀ rp, P (mkPop rp))
    (push : ∀ rp, P (mkPush rp))
    (rst : ∀ t, P (mkRst t))
    (alu : ∀ op src, P (mkAlu op src))
    (aluImm : ∀ op n, P (mkAluImm op n))
    (rot : ∀ k r, P (mkRot k r))
    (bit : ∀ b r, P (mkBit b r))
    (res : ∀ b r, P (mkRes b r))
    (set : ∀ b r, P (mkSet b r))
    (ld_atn16_SP' : ∀ n, P (.ld_atn16_SP n))
    (stop_n8' : ∀ n, P (.stop_n8 n))
    (jr_e8' : ∀ e, P (.jr_e8 e))
    (jp_n16' : ∀ n, P (.jp_n16 n))
    (call_n16' : ∀ n, P (.call_n16 n))
    (ldh_atn8_A' : ∀ n, P (.ldh_atn8_A n))
    (add_SP_e8' : ∀ e, P (.add_SP_e8 e))
    (ld_atn16_A' : ∀ n, P (.ld_atn16_A n))
    (ldh_A_atn8' : ∀ n, P (.ldh_A_atn8 n))
    (ld_HL_SPe8' : ∀ e, P (.ld_HL_SPe8 e))
    (ld_A_atn16' : ∀ n, P (.ld_A_atn16 n))
    (nop' : P .nop)
    (rlca' : P .rlca)
    (rrca' : P .rrca)
    (rla' : P .rla)
    (rra' : P .rra)
    (daa' : P .daa)
    (cpl' : P .cpl)
    (scf' : P .scf)
    (ccf' : P .ccf)
    (halt' : P .halt)
    (ret' : P .ret)
    (reti' : P .reti)
    (ldh_atC_A' : P .ldh_atC_A)
    (jp_HL' : P .jp_HL)
    (ldh_A_atC' : P .ldh_A_atC)
    (di' : P .di)
    (ld_SP_HL' : P .ld_SP_HL)
    (ei' : P .ei)
    (illegal : ∀ i, (∃ op ∈ illegalOpcodes, ∀ s, Machine.exec i s = .fault (.illegalOpcode op)) → P i)
    (i : Instr) (hw : WellFormed i) : P i := by
  cases i with
  | ld_BC_n16 n => exact ldR16 .bc n
  | ld_B_n8 n => exact ldImm .b n
  | ld_atn16_SP n => exact ld_atn16_SP' n
  | ld_C_n8 n => exact ldImm .c n
  | stop_n8 n => exact stop_n8' n
  | ld_DE_n16 n => exact ldR16 .de n
  | ld_D_n8 n => exact ldImm .d n
  | jr_e8 e => exact jr_e8' e
  | ld_E_n8 n => exact ldImm .e n
  | jr_NZ_e8 e => exact jrIf .nz e
  | ld_HL_n16 n => exact ldR16 .hl n
  | ld_H_n8 n => exact ldImm .h n
  | jr_Z_e8 e => exact jrIf .z e
  | ld_L_n8 n => exact ldImm .l n
  | jr_NC_e8 e => exact jrIf .nc e
  | ld_SP_n16 n => exact ldR16 .sp n
  | ld_atHL_n8 n => exact ldImm .atHL n
  | jr_C_e8 e => exact jrIf .c e
  | ld_A_n8 n => exact ldImm .a n
  | jp_NZ_n16 n => exact jpIf .nz n
  | jp_n16 n => exact jp_n16' n
  | call_NZ_n16 n => exact callIf .nz n
  | add_A_n8 n => exact aluImm .add n
  | jp_Z_n16 n => exact jpIf .z n
  | prefix_CB op2 => exact Bool.noConfusion hw
  | call_Z_n16 n => exact callIf .z n
  | call_n16 n => exact call_n16' n
  | adc_A_n8 n => exact aluImm .adc n
  | jp_NC_n16 n => exact jpIf .nc n
  | call_NC_n16 n => exact callIf .nc n
  | sub_A_n8 n => exact aluImm .sub n
  | jp_C_n16 n => exact jpIf .c n
  | call_C_n16 n => exact callIf .c n
  | sbc_A_n8 n => exact aluImm .sbc n
  | ldh_atn8_A n => exact ldh_atn8_A' n
  | and_A_n8 n => exact aluImm .and n
  | add_SP_e8 e => exact add_SP_e8' e
  | ld_atn16_A n => exact ld_atn16_A' n
  | xor_A_n8 n => exact aluImm .xor n
  | ldh_A_atn8 n => exact ldh_A_atn8' n
  | or_A_n8 n => exact aluImm .or n
  | ld_HL_SPe8 e => exact ld_HL_SPe8' e
  | ld_A_atn16 n => exact ld_A_atn16' n
  | cp_A_n8 n => exact aluImm .cp n
  | nop => exact nop'
  | ld_atBC_A => exact storeMem .bc
  | inc_BC => exact incR16 .bc
  | inc_B => exact inc8 .b
  | dec_B => exact dec8 .b
  | rlca => exact rlca'
  | add_HL_BC => exact addHL .bc
  | ld_A_atBC => exact loadMem .bc
  | dec_BC => exact decR16 .bc
  | inc_C => exact inc8 .c
  | dec_C => exact dec8 .c
  | rrca => exact rrca'
  | ld_atDE_A => exact storeMem .de
  | inc_DE => exact incR16 .de
  | inc_D => exact inc8 .d
  | dec_D => exact dec8 .d
  | rla => exact rla'
  | add_HL_DE => exact addHL .de
  | ld_A_atDE => exact loadMem .de
  | dec_DE => exact decR16 .de
  | inc_E => exact inc8 .e
  | dec_E => exact dec8 .e
  | rra => exact rra'
  | ld_atHLinc_A => exact storeMem .hlInc
  | inc_HL => exact incR16 .hl
  | inc_H => exact inc8 .h
  | dec_H => exact dec8 .h
  | daa => exact daa'
  | add_HL_HL => exact addHL .hl
  | ld_A_atHLinc => exact loadMem .hlInc
  | dec_HL => exact decR16 .hl
  | inc_L => exact inc8 .l
  | dec_L => exact dec8 .l
  | cpl => exact cpl'
  | ld_atHLdec_A => exact storeMem .hlDec
  | inc_SP => exact incR16 .sp
  | inc_atHL => exact inc8 .atHL
  | dec_atHL => exact dec8 .atHL
  | scf => exact scf'
  | add_HL_SP => exact addHL .sp
  | ld_A_atHLdec => exact loadMem .hlDec
  | dec_SP => exact decR16 .sp
  | inc_A => exact inc8 .a
  | dec_A => exact dec8 .a
  | ccf => exact ccf'
  | ld_B_B => exact ld .b .b (by decide)
  | ld_B_C => exact ld .b .c (by decide)
  | ld_B_D => exact ld .b .d (by decide)
  | ld_B_E => exact ld .b .e (by decide)
  | ld_B_H => exact ld .b .h (by decide)
  | ld_B_L => exact ld .b .l (by decide)
  | ld_B_atHL => exact ld .b .atHL (by decide)
  | ld_B_A => exact ld .b .a (by decide)
  | ld_C_B => exact ld .c .b (by decide)
  | ld_C_C => exact ld .c .c (by decide)
  | ld_C_D => exact ld .c .d (by decide)
  | ld_C_E => exact ld .c .e (by decide)
  | ld_C_H => exact ld .c .h (by decide)
  | ld_C_L => exact ld .c .l (by decide)
  | ld_C_atHL => exact ld .c .atHL (by decide)
  | ld_C_A => exact ld .c .a (by decide)
  | ld_D_B => exact ld .d .b (by decide)
  | ld_D_C => exact ld .d .c (by decide)
  | ld_D_D => exact ld .d .d (by decide)
  | ld_D_E => exact ld .d .e (by decide)
  | ld_D_H => exact ld .d .h (by decide)
  | ld_D_L => exact ld .d .l (by decide)
  | ld_D_atHL => exact ld .d .atHL (by decide)
  | ld_D_A => exact ld .d .a (by decide)
  | ld_E_B => exact ld .e .b (by decide)
  | ld_E_C => exact ld .e .c (by decide)
  | ld_E_D => exact ld .e .d (by decide)
  | ld_E_E => exact ld .e .e (by decide)
  | ld_E_H => exact ld .e .h (by decide)
  | ld_E_L => exact ld .e .l (by decide)
  | ld_E_atHL => exact ld .e .atHL (by decide)
  | ld_E_A => exact ld .e .a (by decide)
  | ld_H_B => exact ld .h .b (by decide)
  | ld_H_C => exact ld .h .c (by decide)
  | ld_H_D => exact ld .h .d (by decide)
  | ld_H_E => exact ld .h .e (by decide)
  | ld_H_H => exact ld .h .h (by decide)
  | ld_H_L => exact ld .h .l (by decide)
  | ld_H_atHL => exact ld .h .atHL (by decide)
  | ld_H_A => exact ld .h .a (by decide)
  | ld_L_B => exact ld .l .b (by decide)
  | ld_L_C => exact ld .l .c (by decide)
  | ld_L_D => exact ld .l .d (by decide)
  | ld_L_E => exact ld .l .e (by decide)
  | ld_L_H => exact ld .l .h (by decide)
  | ld_L_L => exact ld .l .l (by decide)
  | ld_L_atHL => exact ld .l .atHL (by decide)
  | ld_L_A => exact ld .l .a (by decide)
  | ld_atHL_B => exact ld .atHL .b (by decide)
  | ld_atHL_C => exact ld .atHL .c (by decide)
  | ld_atHL_D => exact ld .atHL .d (by decide)
  | ld_atHL_E => exact ld .atHL .e (by decide)
  | ld_atHL_H => exact ld .atHL .h (by decide)
  | ld_atHL_L => exact ld .atHL .l (by decide)
  | halt => exact halt'
  | ld_atHL_A => exact ld .atHL .a (by decide)
  | ld_A_B => exact ld .a .b (by decide)
  | ld_A_C => exact ld .a .c (by decide)
  | ld_A_D => exact ld .a .d (by decide)
  | ld_A_E => exact ld .a .e (by decide)
  | ld_A_H => exact ld .a .h (by decide)
  | ld_A_L => exact ld .a .l (by decide)
  | ld_A_atHL => exact ld .a .atHL (by decide)
  | ld_A_A => exact ld .a .a (by decide)
  | add_A_B => exact alu .add .b
  | add_A_C => exact alu .add .c
  | add_A_D => exact alu .add .d
  | add_A_E => exact alu .add .e
  | add_A_H => exact alu .add .h
  | add_A_L => exact alu .add .l
  | add_A_atHL => exact alu .add .atHL
  | add_A_A => exact alu .add .a
  | adc_A_B => exact alu .adc .b
  | adc_A_C => exact alu .adc .c
  | adc_A_D => exact alu .adc .d
  | adc_A_E => exact alu .adc .e
  | adc_A_H => exact alu .adc .h
  | adc_A_L => exact alu .adc .l
  | adc_A_atHL => exact alu .adc .atHL
  | adc_A_A => exact alu .adc .a
  | sub_A_B => exact alu .sub .b
  | sub_A_C => exact alu .sub .c
  | sub_A_D => exact alu .sub .d
  | sub_A_E => exact alu .sub .e
  | sub_A_H => exact alu .sub .h
  | sub_A_L => exact alu .sub .l
  | sub_A_atHL => exact alu .sub .atHL
  | sub_A_A => exact alu .sub .a
  | sbc_A_B => exact alu .sbc .b
  | sbc_A_C => exact alu .sbc .c
  | sbc_A_D => exact alu .sbc .d
  | sbc_A_E => exact alu .sbc .e
  | sbc_A_H => exact alu .sbc .h
  | sbc_A_L => exact alu .sbc .l
  | sbc_A_atHL => exact alu .sbc .atHL
  | sbc_A_A => exact alu .sbc .a
  | and_A_B => exact alu .and .b
  | and_A_C => exact alu .and .c
  | and_A_D => exact alu .and .d
  | and_A_E => exact alu .and .e
  | and_A_H => exact alu .and .h
  | and_A_L => exact alu .and .l
  | and_A_atHL => exact alu .and .atHL
  | and_A_A => exact alu .and .a
  | xor_A_B => exact alu .xor .b
  | xor_A_C => exact alu .xor .c
  | xor_A_D => exact alu .xor .d
  | xor_A_E => exact alu .xor .e
  | xor_A_H => exact alu .xor .h
  | xor_A_L => exact alu .xor .l
  | xor_A_atHL => exact alu .xor .atHL
  | xor_A_A => exact alu .xor .a
  | or_A_B => exact alu .or .b
  | or_A_C => exact alu .or .c
  | or_A_D => exact alu .or .d
  | or_A_E => exact alu .or .e
  | or_A_H => exact alu .or .h
  | or_A_L => exact alu .or .l
  | or_A_atHL => exact alu .or .atHL
  | or_A_A => exact alu .or .a
  | cp_A_B => exact alu .cp .b
  | cp_A_C => exact alu .cp .c
  | cp_A_D => exact alu .cp .d
  | cp_A_E => exact alu .cp .e
  | cp_A_H => exact alu .cp .h
  | cp_A_L => exact alu .cp .l
  | cp_A_atHL => exact alu .cp .atHL
  | cp_A_A => exact alu .cp .a
  | ret_NZ => exact retIf .nz
  | pop_BC => exact pop .bc
  | push_BC => exact push .bc
  | rst_00 => exact rst .i0
  | ret_Z => exact retIf .z
  | ret => exact ret'
  | rst_08 => exact rst .i1
  | ret_NC => exact retIf .nc
  | pop_DE => exact pop .de
  | illegal_D3 => exact illegal _ ⟨0xD3, by decide, fun _ => rfl⟩
  | push_DE => exact push .de
  | rst_10 => exact rst .i2
  | ret_C => exact retIf .c
  | reti => exact reti'
  | illegal_DB => exact illegal _ ⟨0xDB, by decide, fun _ => rfl⟩
  | illegal_DD => exact illegal _ ⟨0xDD, by decide, fun _ => rfl⟩
  | rst_18 => exact rst .i3
  | pop_HL => exact pop .hl
  | ldh_atC_A => exact ldh_atC_A'
  | illegal_E3 => exact illegal _ ⟨0xE3, by decide, fun _ => rfl⟩
  | illegal_E4 => exact illegal _ ⟨0xE4, by decide, fun _ => rfl⟩
  | push_HL => exact push .hl
  | rst_20 => exact rst .i4
  | jp_HL => exact jp_HL'
  | illegal_EB => exact illegal _ ⟨0xEB, by decide, fun _ => rfl⟩
  | illegal_EC => exact illegal _ ⟨0xEC, by decide, fun _ => rfl⟩
  | illegal_ED => exact illegal _ ⟨0xED, by decide, fun _ => rfl⟩
  | rst_28 => exact rst .i5
  | pop_AF => exact pop .af
  | ldh_A_atC => exact ldh_A_atC'
  | di => exact di'
  | illegal_F4 => exact illegal _ ⟨0xF4, by decide, fun _ => rfl⟩
  | push_AF => exact push .af
  | rst_30 => exact rst .i6
  | ld_SP_HL => exact ld_SP_HL'
  | ei => exact ei'
  | illegal_FC => exact illegal _ ⟨0xFC, by decide, fun _ => rfl⟩
  | illegal_FD => exact illegal _ ⟨0xFD, by decide, fun _ => rfl⟩
  | rst_38 => exact rst .i7
  | rlc_B => exact rot .rlc .b
  | rlc_C => exact rot .rlc .c
  | rlc_D => exact rot .rlc .d
  | rlc_E => exact rot .rlc .e
  | rlc_H => exact rot .rlc .h
  | rlc_L => exact rot .rlc .l
  | rlc_atHL => exact rot .rlc .atHL
  | rlc_A => exact rot .rlc .a
  | rrc_B => exact rot .rrc .b
  | rrc_C => exact rot .rrc .c
  | rrc_D => exact rot .rrc .d
  | rrc_E => exact rot .rrc .e
  | rrc_H => exact rot .rrc .h
  | rrc_L => exact rot .rrc .l
  | rrc_atHL => exact rot .rrc .atHL
  | rrc_A => exact rot .rrc .a
  | rl_B => exact rot .rl .b
  | rl_C => exact rot .rl .c
  | rl_D => exact rot .rl .d
  | rl_E => exact rot .rl .e
  | rl_H => exact rot .rl .h
  | rl_L => exact rot .rl .l
  | rl_atHL => exact rot .rl .atHL
  | rl_A => exact rot .rl .a
  | rr_B => exact rot .rr .b
  | rr_C => exact rot .rr .c
  | rr_D => exact rot .rr .d
  | rr_E => exact rot .rr .e
  | rr_H => exact rot .rr .h
  | rr_L => exact rot .rr .l
  | rr_atHL => exact rot .rr .atHL
  | rr_A => exact rot .rr .a
  | sla_B => exact rot .sla .b
  | sla_C => exact rot .sla .c
  | sla_D => exact rot .sla .d
  | sla_E => exact rot .sla .e
  | sla_H => exact rot .sla .h
  | sla_L => exact rot .sla .l
  | sla_atHL => exact rot .sla .atHL
  | sla_A => exact rot .sla .a
  | sra_B => exact rot .sra .b
  | sra_C => exact rot .sra .c
  | sra_D => exact rot .sra .d
  | sra_E => exact rot .sra .e
  | sra_H => exact rot .sra .h
  | sra_L => exact rot .sra .l
  | sra_atHL => exact rot .sra .atHL
  | sra_A => exact rot .sra .a
  | swap_B => exact rot .swap .b
  | swap_C => exact rot .swap .c
  | swap_D => exact rot .swap .d
  | swap_E => exact rot .swap .e
  | swap_H => exact rot .swap .h
  | swap_L => exact rot .swap .l
  | swap_atHL => exact rot .swap .atHL
  | swap_A => exact rot .swap .a
  | srl_B => exact rot .srl .b
  | srl_C => exact rot .srl .c
  | srl_D => exact rot .srl .d
  | srl_E => exact rot .srl .e
  | srl_H => exact rot .srl .h
  | srl_L => exact rot .srl .l
  | srl_atHL => exact rot .srl .atHL
  | srl_A => exact rot .srl .a
  | bit_0_B => exact bit .i0 .b
  | bit_0_C => exact bit .i0 .c
  | bit_0_D => exact bit .i0 .d
  | bit_0_E => exact bit .i0 .e
  | bit_0_H => exact bit .i0 .h
  | bit_0_L => exact bit .i0 .l
  | bit_0_atHL => exact bit .i0 .atHL
  | bit_0_A => exact bit .i0 .a
  | bit_1_B => exact bit .i1 .b
  | bit_1_C => exact bit .i1 .c
  | bit_1_D => exact bit .i1 .d
  | bit_1_E => exact bit .i1 .e
  | bit_1_H => exact bit .i1 .h
  | bit_1_L => exact bit .i1 .l
  | bit_1_atHL => exact bit .i1 .atHL
  | bit_1_A => exact bit .i1 .a
  | bit_2_B => exact bit .i2 .b
  | bit_2_C => exact bit .i2 .c
  | bit_2_D => exact bit .i2 .d
  | bit_2_E => exact bit .i2 .e
  | bit_2_H => exact bit .i2 .h
  | bit_2_L => exact bit .i2 .l
  | bit_2_atHL => exact bit .i2 .atHL
  | bit_2_A => exact bit .i2 .a
  | bit_3_B => exact bit .i3 .b
  | bit_3_C => exact bit .i3 .c
  | bit_3_D => exact bit .i3 .d
  | bit_3_E => exact bit .i3 .e
  | bit_3_H => exact bit .i3 .h
  | bit_3_L => exact bit .i3 .l
  | bit_3_atHL => exact bit .i3 .atHL
  | bit_3_A => exact bit .i3 .a
  | bit_4_B => exact bit .i4 .b
  | bit_4_C => exact bit .i4 .c
  | bit_4_D => exact bit .i4 .d
  | bit_4_E => exact bit .i4 .e
  | bit_4_H => exact bit .i4 .h
  | bit_4_L => exact bit .i4 .l
  | bit_4_atHL => exact bit .i4 .atHL
  | bit_4_A => exact bit .i4 .a
  | bit_5_B => exact bit .i5 .b
  | bit_5_C => exact bit .i5 .c
  | bit_5_D => exact bit .i5 .d
  | bit_5_E => exact bit .i5 .e
  | bit_5_H => exact bit .i5 .h
  | bit_5_L => exact bit .i5 .l
  | bit_5_atHL => exact bit .i5 .atHL
  | bit_5_A => exact bit .i5 .a
  | bit_6_B => exact bit .i6 .b
  | bit_6_C => exact bit .i6 .c
  | bit_6_D => exact bit .i6 .d
  | bit_6_E => exact bit .i6 .e
  | bit_6_H => exact bit .i6 .h
  | bit_6_L => exact bit .i6 .l
  | bit_6_atHL => exact bit .i6 .atHL
  | bit_6_A => exact bit .i6 .a
  | bit_7_B => exact bit .i7 .b
  | bit_7_C => exact bit .i7 .c
  | bit_7_D => exact bit .i7 .d
  | bit_7_E => exact bit .i7 .e
  | bit_7_H => exact bit .i7 .h
  | bit_7_L => exact bit .i7 .l
  | bit_7_atHL => exact bit .i7 .atHL
  | bit_7_A => exact bit .i7 .a
  | res_0_B => exact res .i0 .b
  | res_0_C => exact res .i0 .c
  | res_0_D => exact res .i0 .d
  | res_0_E => exact res .i0 .e
  | res_0_H => exact res .i0 .h
  | res_0_L => exact res .i0 .l
  | res_0_atHL => exact res .i0 .atHL
  | res_0_A => exact res .i0 .a
  | res_1_B => exact res .i1 .b
  | res_1_C => exact res .i1 .c
  | res_1_D => exact res .i1 .d
  | res_1_E => exact res .i1 .e
  | res_1_H => exact res .i1 .h
  | res_1_L => exact res .i1 .l
  | res_1_atHL => exact res .i1 .atHL
  | res_1_A => exact res .i1 .a
  | res_2_B => exact res .i2 .b
  | res_2_C => exact res .i2 .c
  | res_2_D => exact res .i2 .d
  | res_2_E => exact res .i2 .e
  | res_2_H => exact res .i2 .h
  | res_2_L => exact res .i2 .l
  | res_2_atHL => exact res .i2 .atHL
  | res_2_A => exact res .i2 .a
  | res_3_B => exact res .i3 .b
  | res_3_C => exact res .i3 .c
  | res_3_D => exact res .i3 .d
  | res_3_E => exact res .i3 .e
  | res_3_H => exact res .i3 .h
  | res_3_L => exact res .i3 .l
  | res_3_atHL => exact res .i3 .atHL
  | res_3_A => exact res .i3 .a
  | res_4_B => exact res .i4 .b
  | res_4_C => exact res .i4 .c
  | res_4_D => exact res .i4 .d
  | res_4_E => exact res .i4 .e
  | res_4_H => exact res .i4 .h
  | res_4_L => exact res .i4 .l
  | res_4_atHL => exact res .i4 .atHL
  | res_4_A => exact res .i4 .a
  | res_5_B => exact res .i5 .b
  | res_5_C => exact res .i5 .c
  | res_5_D => exact res .i5 .d
  | res_5_E => exact res .i5 .e
  | res_5_H => exact res .i5 .h
  | res_5_L => exact res .i5 .l
  | res_5_atHL => exact res .i5 .atHL
  | res_5_A => exact res .i5 .a
  | res_6_B => exact res .i6 .b
  | res_6_C => exact res .i6 .c
  | res_6_D => exact res .i6 .d
  | res_6_E => exact res .i6 .e
  | res_6_H => exact res .i6 .h
  | res_6_L => exact res .i6 .l
  | res_6_atHL => exact res .i6 .atHL
  | res_6_A => exact res .i6 .a
  | res_7_B => exact res .i7 .b
  | res_7_C => exact res .i7 .c
  | res_7_D => exact res .i7 .d
  | res_7_E => exact res .i7 .e
  | res_7_H => exact res .i7 .h
  | res_7_L => exact res .i7 .l
  | res_7_atHL => exact res .i7 .atHL
  | res_7_A => exact res .i7 .a
  | set_0_B => exact set .i0 .b
  | set_0_C => exact set .i0 .c
  | set_0_D => exact set .i0 .d
  | set_0_E => exact set .i0 .e
  | set_0_H => exact set .i0 .h
  | set_0_L => exact set .i0 .l
  | set_0_atHL => exact set .i0 .atHL
  | set_0_A => exact set .i0 .a
  | set_1_B => exact set .i1 .b
  | set_1_C => exact set .i1 .c
  | set_1_D => exact set .i1 .d
  | set_1_E => exact set .i1 .e
  | set_1_H => exact set .i1 .h
  | set_1_L => exact set .i1 .l
  | set_1_atHL => exact set .i1 .atHL
  | set_1_A => exact set .i1 .a
  | set_2_B => exact set .i2 .b
  | set_2_C => exact set .i2 .c
  | set_2_D => exact set .i2 .d
  | set_2_E => exact set .i2 .e
  | set_2_H => exact set .i2 .h
  | set_2_L => exact set .i2 .l
  | set_2_atHL => exact set .i2 .atHL
  | set_2_A => exact set .i2 .a
  | set_3_B => exact set .i3 .b
  | set_3_C => exact set .i3 .c
  | set_3_D => exact set .i3 .d
  | set_3_E => exact set .i3 .e
  | set_3_H => exact set .i3 .h
  | set_3_L => exact set .i3 .l
  | set_3_atHL => exact set .i3 .atHL
  | set_3_A => exact set .i3 .a
  | set_4_B => exact set .i4 .b
  | set_4_C => exact set .i4 .c
  | set_4_D => exact set .i4 .d
  | set_4_E => exact set .i4 .e
  | set_4_H => exact set .i4 .h
  | set_4_L => exact set .i4 .l
  | set_4_atHL => exact set .i4 .atHL
  | set_4_A => exact set .i4 .a
  | set_5_B => exact set .i5 .b
  | set_5_C => exact set .i5 .c
  | set_5_D => exact set .i5 .d
  | set_5_E => exact set .i5 .e
  | set_5_H => exact set .i5 .h
  | set_5_L => exact set .i5 .l
  | set_5_atHL => exact set .i5 .atHL
  | set_5_A => exact set .i5 .a
  | set_6_B => exact set .i6 .b
  | set_6_C => exact set .i6 .c
  | set_6_D => exact set .i6 .d
  | set_6_E => exact set .i6 .e
  | set_6_H => exact set .i6 .h
  | set_6_L => exact set .i6 .l
  | set_6_atHL => exact set .i6 .atHL
  | set_6_A => exact set .i6 .a
  | set_7_B => exact set .i7 .b
  | set_7_C => exact set .i7 .c
  | set_7_D => exact set .i7 .d
  | set_7_E => exact set .i7 .e
  | set_7_H => exact set .i7 .h
  | set_7_L => exact set .i7 .l
  | set_7_atHL => exact set .i7 .atHL
  | set_7_A => exact set .i7 .a

end Sys2Proof
end

