-- ==== Sys2Proof/Laws/PerInstr.lean ====
section
/-! SUPPORT. Laws made instruction by instruction. `Length`: an instruction's bytes are as many as its first byte alone
says (30_encoding.md R111, R140). -/

namespace Sys2Proof.Laws.Length

/-- The first byte of `encode i` fixes the number of its bytes. -/
def Statement (i : Instr) : Prop := (encode i).length = instrLength ((encode i).headD 0)

theorem nop : Statement .nop := by unfold Statement; rfl
theorem ld_BC_n16 (n : Word) : Statement (.ld_BC_n16 n) := by unfold Statement; rfl
theorem ld_atBC_A : Statement .ld_atBC_A := by unfold Statement; rfl
theorem inc_BC : Statement .inc_BC := by unfold Statement; rfl
theorem inc_B : Statement .inc_B := by unfold Statement; rfl
theorem dec_B : Statement .dec_B := by unfold Statement; rfl
theorem ld_B_n8 (n : Byte) : Statement (.ld_B_n8 n) := by unfold Statement; rfl
theorem rlca : Statement .rlca := by unfold Statement; rfl
theorem ld_atn16_SP (n : Word) : Statement (.ld_atn16_SP n) := by unfold Statement; rfl
theorem add_HL_BC : Statement .add_HL_BC := by unfold Statement; rfl
theorem ld_A_atBC : Statement .ld_A_atBC := by unfold Statement; rfl
theorem dec_BC : Statement .dec_BC := by unfold Statement; rfl
theorem inc_C : Statement .inc_C := by unfold Statement; rfl
theorem dec_C : Statement .dec_C := by unfold Statement; rfl
theorem ld_C_n8 (n : Byte) : Statement (.ld_C_n8 n) := by unfold Statement; rfl
theorem rrca : Statement .rrca := by unfold Statement; rfl
theorem stop_n8 (n : Byte) : Statement (.stop_n8 n) := by unfold Statement; rfl
theorem ld_DE_n16 (n : Word) : Statement (.ld_DE_n16 n) := by unfold Statement; rfl
theorem ld_atDE_A : Statement .ld_atDE_A := by unfold Statement; rfl
theorem inc_DE : Statement .inc_DE := by unfold Statement; rfl
theorem inc_D : Statement .inc_D := by unfold Statement; rfl
theorem dec_D : Statement .dec_D := by unfold Statement; rfl
theorem ld_D_n8 (n : Byte) : Statement (.ld_D_n8 n) := by unfold Statement; rfl
theorem rla : Statement .rla := by unfold Statement; rfl
theorem jr_e8 (e : Byte) : Statement (.jr_e8 e) := by unfold Statement; rfl
theorem add_HL_DE : Statement .add_HL_DE := by unfold Statement; rfl
theorem ld_A_atDE : Statement .ld_A_atDE := by unfold Statement; rfl
theorem dec_DE : Statement .dec_DE := by unfold Statement; rfl
theorem inc_E : Statement .inc_E := by unfold Statement; rfl
theorem dec_E : Statement .dec_E := by unfold Statement; rfl
theorem ld_E_n8 (n : Byte) : Statement (.ld_E_n8 n) := by unfold Statement; rfl
theorem rra : Statement .rra := by unfold Statement; rfl
theorem jr_NZ_e8 (e : Byte) : Statement (.jr_NZ_e8 e) := by unfold Statement; rfl
theorem ld_HL_n16 (n : Word) : Statement (.ld_HL_n16 n) := by unfold Statement; rfl
theorem ld_atHLinc_A : Statement .ld_atHLinc_A := by unfold Statement; rfl
theorem inc_HL : Statement .inc_HL := by unfold Statement; rfl
theorem inc_H : Statement .inc_H := by unfold Statement; rfl
theorem dec_H : Statement .dec_H := by unfold Statement; rfl
theorem ld_H_n8 (n : Byte) : Statement (.ld_H_n8 n) := by unfold Statement; rfl
theorem daa : Statement .daa := by unfold Statement; rfl
theorem jr_Z_e8 (e : Byte) : Statement (.jr_Z_e8 e) := by unfold Statement; rfl
theorem add_HL_HL : Statement .add_HL_HL := by unfold Statement; rfl
theorem ld_A_atHLinc : Statement .ld_A_atHLinc := by unfold Statement; rfl
theorem dec_HL : Statement .dec_HL := by unfold Statement; rfl
theorem inc_L : Statement .inc_L := by unfold Statement; rfl
theorem dec_L : Statement .dec_L := by unfold Statement; rfl
theorem ld_L_n8 (n : Byte) : Statement (.ld_L_n8 n) := by unfold Statement; rfl
theorem cpl : Statement .cpl := by unfold Statement; rfl
theorem jr_NC_e8 (e : Byte) : Statement (.jr_NC_e8 e) := by unfold Statement; rfl
theorem ld_SP_n16 (n : Word) : Statement (.ld_SP_n16 n) := by unfold Statement; rfl
theorem ld_atHLdec_A : Statement .ld_atHLdec_A := by unfold Statement; rfl
theorem inc_SP : Statement .inc_SP := by unfold Statement; rfl
theorem inc_atHL : Statement .inc_atHL := by unfold Statement; rfl
theorem dec_atHL : Statement .dec_atHL := by unfold Statement; rfl
theorem ld_atHL_n8 (n : Byte) : Statement (.ld_atHL_n8 n) := by unfold Statement; rfl
theorem scf : Statement .scf := by unfold Statement; rfl
theorem jr_C_e8 (e : Byte) : Statement (.jr_C_e8 e) := by unfold Statement; rfl
theorem add_HL_SP : Statement .add_HL_SP := by unfold Statement; rfl
theorem ld_A_atHLdec : Statement .ld_A_atHLdec := by unfold Statement; rfl
theorem dec_SP : Statement .dec_SP := by unfold Statement; rfl
theorem inc_A : Statement .inc_A := by unfold Statement; rfl
theorem dec_A : Statement .dec_A := by unfold Statement; rfl
theorem ld_A_n8 (n : Byte) : Statement (.ld_A_n8 n) := by unfold Statement; rfl
theorem ccf : Statement .ccf := by unfold Statement; rfl
theorem ld_B_B : Statement .ld_B_B := by unfold Statement; rfl
theorem ld_B_C : Statement .ld_B_C := by unfold Statement; rfl
theorem ld_B_D : Statement .ld_B_D := by unfold Statement; rfl
theorem ld_B_E : Statement .ld_B_E := by unfold Statement; rfl
theorem ld_B_H : Statement .ld_B_H := by unfold Statement; rfl
theorem ld_B_L : Statement .ld_B_L := by unfold Statement; rfl
theorem ld_B_atHL : Statement .ld_B_atHL := by unfold Statement; rfl
theorem ld_B_A : Statement .ld_B_A := by unfold Statement; rfl
theorem ld_C_B : Statement .ld_C_B := by unfold Statement; rfl
theorem ld_C_C : Statement .ld_C_C := by unfold Statement; rfl
theorem ld_C_D : Statement .ld_C_D := by unfold Statement; rfl
theorem ld_C_E : Statement .ld_C_E := by unfold Statement; rfl
theorem ld_C_H : Statement .ld_C_H := by unfold Statement; rfl
theorem ld_C_L : Statement .ld_C_L := by unfold Statement; rfl
theorem ld_C_atHL : Statement .ld_C_atHL := by unfold Statement; rfl
theorem ld_C_A : Statement .ld_C_A := by unfold Statement; rfl
theorem ld_D_B : Statement .ld_D_B := by unfold Statement; rfl
theorem ld_D_C : Statement .ld_D_C := by unfold Statement; rfl
theorem ld_D_D : Statement .ld_D_D := by unfold Statement; rfl
theorem ld_D_E : Statement .ld_D_E := by unfold Statement; rfl
theorem ld_D_H : Statement .ld_D_H := by unfold Statement; rfl
theorem ld_D_L : Statement .ld_D_L := by unfold Statement; rfl
theorem ld_D_atHL : Statement .ld_D_atHL := by unfold Statement; rfl
theorem ld_D_A : Statement .ld_D_A := by unfold Statement; rfl
theorem ld_E_B : Statement .ld_E_B := by unfold Statement; rfl
theorem ld_E_C : Statement .ld_E_C := by unfold Statement; rfl
theorem ld_E_D : Statement .ld_E_D := by unfold Statement; rfl
theorem ld_E_E : Statement .ld_E_E := by unfold Statement; rfl
theorem ld_E_H : Statement .ld_E_H := by unfold Statement; rfl
theorem ld_E_L : Statement .ld_E_L := by unfold Statement; rfl
theorem ld_E_atHL : Statement .ld_E_atHL := by unfold Statement; rfl
theorem ld_E_A : Statement .ld_E_A := by unfold Statement; rfl
theorem ld_H_B : Statement .ld_H_B := by unfold Statement; rfl
theorem ld_H_C : Statement .ld_H_C := by unfold Statement; rfl
theorem ld_H_D : Statement .ld_H_D := by unfold Statement; rfl
theorem ld_H_E : Statement .ld_H_E := by unfold Statement; rfl
theorem ld_H_H : Statement .ld_H_H := by unfold Statement; rfl
theorem ld_H_L : Statement .ld_H_L := by unfold Statement; rfl
theorem ld_H_atHL : Statement .ld_H_atHL := by unfold Statement; rfl
theorem ld_H_A : Statement .ld_H_A := by unfold Statement; rfl
theorem ld_L_B : Statement .ld_L_B := by unfold Statement; rfl
theorem ld_L_C : Statement .ld_L_C := by unfold Statement; rfl
theorem ld_L_D : Statement .ld_L_D := by unfold Statement; rfl
theorem ld_L_E : Statement .ld_L_E := by unfold Statement; rfl
theorem ld_L_H : Statement .ld_L_H := by unfold Statement; rfl
theorem ld_L_L : Statement .ld_L_L := by unfold Statement; rfl
theorem ld_L_atHL : Statement .ld_L_atHL := by unfold Statement; rfl
theorem ld_L_A : Statement .ld_L_A := by unfold Statement; rfl
theorem ld_atHL_B : Statement .ld_atHL_B := by unfold Statement; rfl
theorem ld_atHL_C : Statement .ld_atHL_C := by unfold Statement; rfl
theorem ld_atHL_D : Statement .ld_atHL_D := by unfold Statement; rfl
theorem ld_atHL_E : Statement .ld_atHL_E := by unfold Statement; rfl
theorem ld_atHL_H : Statement .ld_atHL_H := by unfold Statement; rfl
theorem ld_atHL_L : Statement .ld_atHL_L := by unfold Statement; rfl
theorem halt : Statement .halt := by unfold Statement; rfl
theorem ld_atHL_A : Statement .ld_atHL_A := by unfold Statement; rfl
theorem ld_A_B : Statement .ld_A_B := by unfold Statement; rfl
theorem ld_A_C : Statement .ld_A_C := by unfold Statement; rfl
theorem ld_A_D : Statement .ld_A_D := by unfold Statement; rfl
theorem ld_A_E : Statement .ld_A_E := by unfold Statement; rfl
theorem ld_A_H : Statement .ld_A_H := by unfold Statement; rfl
theorem ld_A_L : Statement .ld_A_L := by unfold Statement; rfl
theorem ld_A_atHL : Statement .ld_A_atHL := by unfold Statement; rfl
theorem ld_A_A : Statement .ld_A_A := by unfold Statement; rfl
theorem add_A_B : Statement .add_A_B := by unfold Statement; rfl
theorem add_A_C : Statement .add_A_C := by unfold Statement; rfl
theorem add_A_D : Statement .add_A_D := by unfold Statement; rfl
theorem add_A_E : Statement .add_A_E := by unfold Statement; rfl
theorem add_A_H : Statement .add_A_H := by unfold Statement; rfl
theorem add_A_L : Statement .add_A_L := by unfold Statement; rfl
theorem add_A_atHL : Statement .add_A_atHL := by unfold Statement; rfl
theorem add_A_A : Statement .add_A_A := by unfold Statement; rfl
theorem adc_A_B : Statement .adc_A_B := by unfold Statement; rfl
theorem adc_A_C : Statement .adc_A_C := by unfold Statement; rfl
theorem adc_A_D : Statement .adc_A_D := by unfold Statement; rfl
theorem adc_A_E : Statement .adc_A_E := by unfold Statement; rfl
theorem adc_A_H : Statement .adc_A_H := by unfold Statement; rfl
theorem adc_A_L : Statement .adc_A_L := by unfold Statement; rfl
theorem adc_A_atHL : Statement .adc_A_atHL := by unfold Statement; rfl
theorem adc_A_A : Statement .adc_A_A := by unfold Statement; rfl
theorem sub_A_B : Statement .sub_A_B := by unfold Statement; rfl
theorem sub_A_C : Statement .sub_A_C := by unfold Statement; rfl
theorem sub_A_D : Statement .sub_A_D := by unfold Statement; rfl
theorem sub_A_E : Statement .sub_A_E := by unfold Statement; rfl
theorem sub_A_H : Statement .sub_A_H := by unfold Statement; rfl
theorem sub_A_L : Statement .sub_A_L := by unfold Statement; rfl
theorem sub_A_atHL : Statement .sub_A_atHL := by unfold Statement; rfl
theorem sub_A_A : Statement .sub_A_A := by unfold Statement; rfl
theorem sbc_A_B : Statement .sbc_A_B := by unfold Statement; rfl
theorem sbc_A_C : Statement .sbc_A_C := by unfold Statement; rfl
theorem sbc_A_D : Statement .sbc_A_D := by unfold Statement; rfl
theorem sbc_A_E : Statement .sbc_A_E := by unfold Statement; rfl
theorem sbc_A_H : Statement .sbc_A_H := by unfold Statement; rfl
theorem sbc_A_L : Statement .sbc_A_L := by unfold Statement; rfl
theorem sbc_A_atHL : Statement .sbc_A_atHL := by unfold Statement; rfl
theorem sbc_A_A : Statement .sbc_A_A := by unfold Statement; rfl
theorem and_A_B : Statement .and_A_B := by unfold Statement; rfl
theorem and_A_C : Statement .and_A_C := by unfold Statement; rfl
theorem and_A_D : Statement .and_A_D := by unfold Statement; rfl
theorem and_A_E : Statement .and_A_E := by unfold Statement; rfl
theorem and_A_H : Statement .and_A_H := by unfold Statement; rfl
theorem and_A_L : Statement .and_A_L := by unfold Statement; rfl
theorem and_A_atHL : Statement .and_A_atHL := by unfold Statement; rfl
theorem and_A_A : Statement .and_A_A := by unfold Statement; rfl
theorem xor_A_B : Statement .xor_A_B := by unfold Statement; rfl
theorem xor_A_C : Statement .xor_A_C := by unfold Statement; rfl
theorem xor_A_D : Statement .xor_A_D := by unfold Statement; rfl
theorem xor_A_E : Statement .xor_A_E := by unfold Statement; rfl
theorem xor_A_H : Statement .xor_A_H := by unfold Statement; rfl
theorem xor_A_L : Statement .xor_A_L := by unfold Statement; rfl
theorem xor_A_atHL : Statement .xor_A_atHL := by unfold Statement; rfl
theorem xor_A_A : Statement .xor_A_A := by unfold Statement; rfl
theorem or_A_B : Statement .or_A_B := by unfold Statement; rfl
theorem or_A_C : Statement .or_A_C := by unfold Statement; rfl
theorem or_A_D : Statement .or_A_D := by unfold Statement; rfl
theorem or_A_E : Statement .or_A_E := by unfold Statement; rfl
theorem or_A_H : Statement .or_A_H := by unfold Statement; rfl
theorem or_A_L : Statement .or_A_L := by unfold Statement; rfl
theorem or_A_atHL : Statement .or_A_atHL := by unfold Statement; rfl
theorem or_A_A : Statement .or_A_A := by unfold Statement; rfl
theorem cp_A_B : Statement .cp_A_B := by unfold Statement; rfl
theorem cp_A_C : Statement .cp_A_C := by unfold Statement; rfl
theorem cp_A_D : Statement .cp_A_D := by unfold Statement; rfl
theorem cp_A_E : Statement .cp_A_E := by unfold Statement; rfl
theorem cp_A_H : Statement .cp_A_H := by unfold Statement; rfl
theorem cp_A_L : Statement .cp_A_L := by unfold Statement; rfl
theorem cp_A_atHL : Statement .cp_A_atHL := by unfold Statement; rfl
theorem cp_A_A : Statement .cp_A_A := by unfold Statement; rfl
theorem ret_NZ : Statement .ret_NZ := by unfold Statement; rfl
theorem pop_BC : Statement .pop_BC := by unfold Statement; rfl
theorem jp_NZ_n16 (n : Word) : Statement (.jp_NZ_n16 n) := by unfold Statement; rfl
theorem jp_n16 (n : Word) : Statement (.jp_n16 n) := by unfold Statement; rfl
theorem call_NZ_n16 (n : Word) : Statement (.call_NZ_n16 n) := by unfold Statement; rfl
theorem push_BC : Statement .push_BC := by unfold Statement; rfl
theorem add_A_n8 (n : Byte) : Statement (.add_A_n8 n) := by unfold Statement; rfl
theorem rst_00 : Statement .rst_00 := by unfold Statement; rfl
theorem ret_Z : Statement .ret_Z := by unfold Statement; rfl
theorem ret : Statement .ret := by unfold Statement; rfl
theorem jp_Z_n16 (n : Word) : Statement (.jp_Z_n16 n) := by unfold Statement; rfl
theorem prefix_CB (op2 : Byte) : Statement (.prefix_CB op2) := by unfold Statement; rfl
theorem call_Z_n16 (n : Word) : Statement (.call_Z_n16 n) := by unfold Statement; rfl
theorem call_n16 (n : Word) : Statement (.call_n16 n) := by unfold Statement; rfl
theorem adc_A_n8 (n : Byte) : Statement (.adc_A_n8 n) := by unfold Statement; rfl
theorem rst_08 : Statement .rst_08 := by unfold Statement; rfl
theorem ret_NC : Statement .ret_NC := by unfold Statement; rfl
theorem pop_DE : Statement .pop_DE := by unfold Statement; rfl
theorem jp_NC_n16 (n : Word) : Statement (.jp_NC_n16 n) := by unfold Statement; rfl
theorem illegal_D3 : Statement .illegal_D3 := by unfold Statement; rfl
theorem call_NC_n16 (n : Word) : Statement (.call_NC_n16 n) := by unfold Statement; rfl
theorem push_DE : Statement .push_DE := by unfold Statement; rfl
theorem sub_A_n8 (n : Byte) : Statement (.sub_A_n8 n) := by unfold Statement; rfl
theorem rst_10 : Statement .rst_10 := by unfold Statement; rfl
theorem ret_C : Statement .ret_C := by unfold Statement; rfl
theorem reti : Statement .reti := by unfold Statement; rfl
theorem jp_C_n16 (n : Word) : Statement (.jp_C_n16 n) := by unfold Statement; rfl
theorem illegal_DB : Statement .illegal_DB := by unfold Statement; rfl
theorem call_C_n16 (n : Word) : Statement (.call_C_n16 n) := by unfold Statement; rfl
theorem illegal_DD : Statement .illegal_DD := by unfold Statement; rfl
theorem sbc_A_n8 (n : Byte) : Statement (.sbc_A_n8 n) := by unfold Statement; rfl
theorem rst_18 : Statement .rst_18 := by unfold Statement; rfl
theorem ldh_atn8_A (n : Byte) : Statement (.ldh_atn8_A n) := by unfold Statement; rfl
theorem pop_HL : Statement .pop_HL := by unfold Statement; rfl
theorem ldh_atC_A : Statement .ldh_atC_A := by unfold Statement; rfl
theorem illegal_E3 : Statement .illegal_E3 := by unfold Statement; rfl
theorem illegal_E4 : Statement .illegal_E4 := by unfold Statement; rfl
theorem push_HL : Statement .push_HL := by unfold Statement; rfl
theorem and_A_n8 (n : Byte) : Statement (.and_A_n8 n) := by unfold Statement; rfl
theorem rst_20 : Statement .rst_20 := by unfold Statement; rfl
theorem add_SP_e8 (e : Byte) : Statement (.add_SP_e8 e) := by unfold Statement; rfl
theorem jp_HL : Statement .jp_HL := by unfold Statement; rfl
theorem ld_atn16_A (n : Word) : Statement (.ld_atn16_A n) := by unfold Statement; rfl
theorem illegal_EB : Statement .illegal_EB := by unfold Statement; rfl
theorem illegal_EC : Statement .illegal_EC := by unfold Statement; rfl
theorem illegal_ED : Statement .illegal_ED := by unfold Statement; rfl
theorem xor_A_n8 (n : Byte) : Statement (.xor_A_n8 n) := by unfold Statement; rfl
theorem rst_28 : Statement .rst_28 := by unfold Statement; rfl
theorem ldh_A_atn8 (n : Byte) : Statement (.ldh_A_atn8 n) := by unfold Statement; rfl
theorem pop_AF : Statement .pop_AF := by unfold Statement; rfl
theorem ldh_A_atC : Statement .ldh_A_atC := by unfold Statement; rfl
theorem di : Statement .di := by unfold Statement; rfl
theorem illegal_F4 : Statement .illegal_F4 := by unfold Statement; rfl
theorem push_AF : Statement .push_AF := by unfold Statement; rfl
theorem or_A_n8 (n : Byte) : Statement (.or_A_n8 n) := by unfold Statement; rfl
theorem rst_30 : Statement .rst_30 := by unfold Statement; rfl
theorem ld_HL_SPe8 (e : Byte) : Statement (.ld_HL_SPe8 e) := by unfold Statement; rfl
theorem ld_SP_HL : Statement .ld_SP_HL := by unfold Statement; rfl
theorem ld_A_atn16 (n : Word) : Statement (.ld_A_atn16 n) := by unfold Statement; rfl
theorem ei : Statement .ei := by unfold Statement; rfl
theorem illegal_FC : Statement .illegal_FC := by unfold Statement; rfl
theorem illegal_FD : Statement .illegal_FD := by unfold Statement; rfl
theorem cp_A_n8 (n : Byte) : Statement (.cp_A_n8 n) := by unfold Statement; rfl
theorem rst_38 : Statement .rst_38 := by unfold Statement; rfl
theorem rlc_B : Statement .rlc_B := by unfold Statement; rfl
theorem rlc_C : Statement .rlc_C := by unfold Statement; rfl
theorem rlc_D : Statement .rlc_D := by unfold Statement; rfl
theorem rlc_E : Statement .rlc_E := by unfold Statement; rfl
theorem rlc_H : Statement .rlc_H := by unfold Statement; rfl
theorem rlc_L : Statement .rlc_L := by unfold Statement; rfl
theorem rlc_atHL : Statement .rlc_atHL := by unfold Statement; rfl
theorem rlc_A : Statement .rlc_A := by unfold Statement; rfl
theorem rrc_B : Statement .rrc_B := by unfold Statement; rfl
theorem rrc_C : Statement .rrc_C := by unfold Statement; rfl
theorem rrc_D : Statement .rrc_D := by unfold Statement; rfl
theorem rrc_E : Statement .rrc_E := by unfold Statement; rfl
theorem rrc_H : Statement .rrc_H := by unfold Statement; rfl
theorem rrc_L : Statement .rrc_L := by unfold Statement; rfl
theorem rrc_atHL : Statement .rrc_atHL := by unfold Statement; rfl
theorem rrc_A : Statement .rrc_A := by unfold Statement; rfl
theorem rl_B : Statement .rl_B := by unfold Statement; rfl
theorem rl_C : Statement .rl_C := by unfold Statement; rfl
theorem rl_D : Statement .rl_D := by unfold Statement; rfl
theorem rl_E : Statement .rl_E := by unfold Statement; rfl
theorem rl_H : Statement .rl_H := by unfold Statement; rfl
theorem rl_L : Statement .rl_L := by unfold Statement; rfl
theorem rl_atHL : Statement .rl_atHL := by unfold Statement; rfl
theorem rl_A : Statement .rl_A := by unfold Statement; rfl
theorem rr_B : Statement .rr_B := by unfold Statement; rfl
theorem rr_C : Statement .rr_C := by unfold Statement; rfl
theorem rr_D : Statement .rr_D := by unfold Statement; rfl
theorem rr_E : Statement .rr_E := by unfold Statement; rfl
theorem rr_H : Statement .rr_H := by unfold Statement; rfl
theorem rr_L : Statement .rr_L := by unfold Statement; rfl
theorem rr_atHL : Statement .rr_atHL := by unfold Statement; rfl
theorem rr_A : Statement .rr_A := by unfold Statement; rfl
theorem sla_B : Statement .sla_B := by unfold Statement; rfl
theorem sla_C : Statement .sla_C := by unfold Statement; rfl
theorem sla_D : Statement .sla_D := by unfold Statement; rfl
theorem sla_E : Statement .sla_E := by unfold Statement; rfl
theorem sla_H : Statement .sla_H := by unfold Statement; rfl
theorem sla_L : Statement .sla_L := by unfold Statement; rfl
theorem sla_atHL : Statement .sla_atHL := by unfold Statement; rfl
theorem sla_A : Statement .sla_A := by unfold Statement; rfl
theorem sra_B : Statement .sra_B := by unfold Statement; rfl
theorem sra_C : Statement .sra_C := by unfold Statement; rfl
theorem sra_D : Statement .sra_D := by unfold Statement; rfl
theorem sra_E : Statement .sra_E := by unfold Statement; rfl
theorem sra_H : Statement .sra_H := by unfold Statement; rfl
theorem sra_L : Statement .sra_L := by unfold Statement; rfl
theorem sra_atHL : Statement .sra_atHL := by unfold Statement; rfl
theorem sra_A : Statement .sra_A := by unfold Statement; rfl
theorem swap_B : Statement .swap_B := by unfold Statement; rfl
theorem swap_C : Statement .swap_C := by unfold Statement; rfl
theorem swap_D : Statement .swap_D := by unfold Statement; rfl
theorem swap_E : Statement .swap_E := by unfold Statement; rfl
theorem swap_H : Statement .swap_H := by unfold Statement; rfl
theorem swap_L : Statement .swap_L := by unfold Statement; rfl
theorem swap_atHL : Statement .swap_atHL := by unfold Statement; rfl
theorem swap_A : Statement .swap_A := by unfold Statement; rfl
theorem srl_B : Statement .srl_B := by unfold Statement; rfl
theorem srl_C : Statement .srl_C := by unfold Statement; rfl
theorem srl_D : Statement .srl_D := by unfold Statement; rfl
theorem srl_E : Statement .srl_E := by unfold Statement; rfl
theorem srl_H : Statement .srl_H := by unfold Statement; rfl
theorem srl_L : Statement .srl_L := by unfold Statement; rfl
theorem srl_atHL : Statement .srl_atHL := by unfold Statement; rfl
theorem srl_A : Statement .srl_A := by unfold Statement; rfl
theorem bit_0_B : Statement .bit_0_B := by unfold Statement; rfl
theorem bit_0_C : Statement .bit_0_C := by unfold Statement; rfl
theorem bit_0_D : Statement .bit_0_D := by unfold Statement; rfl
theorem bit_0_E : Statement .bit_0_E := by unfold Statement; rfl
theorem bit_0_H : Statement .bit_0_H := by unfold Statement; rfl
theorem bit_0_L : Statement .bit_0_L := by unfold Statement; rfl
theorem bit_0_atHL : Statement .bit_0_atHL := by unfold Statement; rfl
theorem bit_0_A : Statement .bit_0_A := by unfold Statement; rfl
theorem bit_1_B : Statement .bit_1_B := by unfold Statement; rfl
theorem bit_1_C : Statement .bit_1_C := by unfold Statement; rfl
theorem bit_1_D : Statement .bit_1_D := by unfold Statement; rfl
theorem bit_1_E : Statement .bit_1_E := by unfold Statement; rfl
theorem bit_1_H : Statement .bit_1_H := by unfold Statement; rfl
theorem bit_1_L : Statement .bit_1_L := by unfold Statement; rfl
theorem bit_1_atHL : Statement .bit_1_atHL := by unfold Statement; rfl
theorem bit_1_A : Statement .bit_1_A := by unfold Statement; rfl
theorem bit_2_B : Statement .bit_2_B := by unfold Statement; rfl
theorem bit_2_C : Statement .bit_2_C := by unfold Statement; rfl
theorem bit_2_D : Statement .bit_2_D := by unfold Statement; rfl
theorem bit_2_E : Statement .bit_2_E := by unfold Statement; rfl
theorem bit_2_H : Statement .bit_2_H := by unfold Statement; rfl
theorem bit_2_L : Statement .bit_2_L := by unfold Statement; rfl
theorem bit_2_atHL : Statement .bit_2_atHL := by unfold Statement; rfl
theorem bit_2_A : Statement .bit_2_A := by unfold Statement; rfl
theorem bit_3_B : Statement .bit_3_B := by unfold Statement; rfl
theorem bit_3_C : Statement .bit_3_C := by unfold Statement; rfl
theorem bit_3_D : Statement .bit_3_D := by unfold Statement; rfl
theorem bit_3_E : Statement .bit_3_E := by unfold Statement; rfl
theorem bit_3_H : Statement .bit_3_H := by unfold Statement; rfl
theorem bit_3_L : Statement .bit_3_L := by unfold Statement; rfl
theorem bit_3_atHL : Statement .bit_3_atHL := by unfold Statement; rfl
theorem bit_3_A : Statement .bit_3_A := by unfold Statement; rfl
theorem bit_4_B : Statement .bit_4_B := by unfold Statement; rfl
theorem bit_4_C : Statement .bit_4_C := by unfold Statement; rfl
theorem bit_4_D : Statement .bit_4_D := by unfold Statement; rfl
theorem bit_4_E : Statement .bit_4_E := by unfold Statement; rfl
theorem bit_4_H : Statement .bit_4_H := by unfold Statement; rfl
theorem bit_4_L : Statement .bit_4_L := by unfold Statement; rfl
theorem bit_4_atHL : Statement .bit_4_atHL := by unfold Statement; rfl
theorem bit_4_A : Statement .bit_4_A := by unfold Statement; rfl
theorem bit_5_B : Statement .bit_5_B := by unfold Statement; rfl
theorem bit_5_C : Statement .bit_5_C := by unfold Statement; rfl
theorem bit_5_D : Statement .bit_5_D := by unfold Statement; rfl
theorem bit_5_E : Statement .bit_5_E := by unfold Statement; rfl
theorem bit_5_H : Statement .bit_5_H := by unfold Statement; rfl
theorem bit_5_L : Statement .bit_5_L := by unfold Statement; rfl
theorem bit_5_atHL : Statement .bit_5_atHL := by unfold Statement; rfl
theorem bit_5_A : Statement .bit_5_A := by unfold Statement; rfl
theorem bit_6_B : Statement .bit_6_B := by unfold Statement; rfl
theorem bit_6_C : Statement .bit_6_C := by unfold Statement; rfl
theorem bit_6_D : Statement .bit_6_D := by unfold Statement; rfl
theorem bit_6_E : Statement .bit_6_E := by unfold Statement; rfl
theorem bit_6_H : Statement .bit_6_H := by unfold Statement; rfl
theorem bit_6_L : Statement .bit_6_L := by unfold Statement; rfl
theorem bit_6_atHL : Statement .bit_6_atHL := by unfold Statement; rfl
theorem bit_6_A : Statement .bit_6_A := by unfold Statement; rfl
theorem bit_7_B : Statement .bit_7_B := by unfold Statement; rfl
theorem bit_7_C : Statement .bit_7_C := by unfold Statement; rfl
theorem bit_7_D : Statement .bit_7_D := by unfold Statement; rfl
theorem bit_7_E : Statement .bit_7_E := by unfold Statement; rfl
theorem bit_7_H : Statement .bit_7_H := by unfold Statement; rfl
theorem bit_7_L : Statement .bit_7_L := by unfold Statement; rfl
theorem bit_7_atHL : Statement .bit_7_atHL := by unfold Statement; rfl
theorem bit_7_A : Statement .bit_7_A := by unfold Statement; rfl
theorem res_0_B : Statement .res_0_B := by unfold Statement; rfl
theorem res_0_C : Statement .res_0_C := by unfold Statement; rfl
theorem res_0_D : Statement .res_0_D := by unfold Statement; rfl
theorem res_0_E : Statement .res_0_E := by unfold Statement; rfl
theorem res_0_H : Statement .res_0_H := by unfold Statement; rfl
theorem res_0_L : Statement .res_0_L := by unfold Statement; rfl
theorem res_0_atHL : Statement .res_0_atHL := by unfold Statement; rfl
theorem res_0_A : Statement .res_0_A := by unfold Statement; rfl
theorem res_1_B : Statement .res_1_B := by unfold Statement; rfl
theorem res_1_C : Statement .res_1_C := by unfold Statement; rfl
theorem res_1_D : Statement .res_1_D := by unfold Statement; rfl
theorem res_1_E : Statement .res_1_E := by unfold Statement; rfl
theorem res_1_H : Statement .res_1_H := by unfold Statement; rfl
theorem res_1_L : Statement .res_1_L := by unfold Statement; rfl
theorem res_1_atHL : Statement .res_1_atHL := by unfold Statement; rfl
theorem res_1_A : Statement .res_1_A := by unfold Statement; rfl
theorem res_2_B : Statement .res_2_B := by unfold Statement; rfl
theorem res_2_C : Statement .res_2_C := by unfold Statement; rfl
theorem res_2_D : Statement .res_2_D := by unfold Statement; rfl
theorem res_2_E : Statement .res_2_E := by unfold Statement; rfl
theorem res_2_H : Statement .res_2_H := by unfold Statement; rfl
theorem res_2_L : Statement .res_2_L := by unfold Statement; rfl
theorem res_2_atHL : Statement .res_2_atHL := by unfold Statement; rfl
theorem res_2_A : Statement .res_2_A := by unfold Statement; rfl
theorem res_3_B : Statement .res_3_B := by unfold Statement; rfl
theorem res_3_C : Statement .res_3_C := by unfold Statement; rfl
theorem res_3_D : Statement .res_3_D := by unfold Statement; rfl
theorem res_3_E : Statement .res_3_E := by unfold Statement; rfl
theorem res_3_H : Statement .res_3_H := by unfold Statement; rfl
theorem res_3_L : Statement .res_3_L := by unfold Statement; rfl
theorem res_3_atHL : Statement .res_3_atHL := by unfold Statement; rfl
theorem res_3_A : Statement .res_3_A := by unfold Statement; rfl
theorem res_4_B : Statement .res_4_B := by unfold Statement; rfl
theorem res_4_C : Statement .res_4_C := by unfold Statement; rfl
theorem res_4_D : Statement .res_4_D := by unfold Statement; rfl
theorem res_4_E : Statement .res_4_E := by unfold Statement; rfl
theorem res_4_H : Statement .res_4_H := by unfold Statement; rfl
theorem res_4_L : Statement .res_4_L := by unfold Statement; rfl
theorem res_4_atHL : Statement .res_4_atHL := by unfold Statement; rfl
theorem res_4_A : Statement .res_4_A := by unfold Statement; rfl
theorem res_5_B : Statement .res_5_B := by unfold Statement; rfl
theorem res_5_C : Statement .res_5_C := by unfold Statement; rfl
theorem res_5_D : Statement .res_5_D := by unfold Statement; rfl
theorem res_5_E : Statement .res_5_E := by unfold Statement; rfl
theorem res_5_H : Statement .res_5_H := by unfold Statement; rfl
theorem res_5_L : Statement .res_5_L := by unfold Statement; rfl
theorem res_5_atHL : Statement .res_5_atHL := by unfold Statement; rfl
theorem res_5_A : Statement .res_5_A := by unfold Statement; rfl
theorem res_6_B : Statement .res_6_B := by unfold Statement; rfl
theorem res_6_C : Statement .res_6_C := by unfold Statement; rfl
theorem res_6_D : Statement .res_6_D := by unfold Statement; rfl
theorem res_6_E : Statement .res_6_E := by unfold Statement; rfl
theorem res_6_H : Statement .res_6_H := by unfold Statement; rfl
theorem res_6_L : Statement .res_6_L := by unfold Statement; rfl
theorem res_6_atHL : Statement .res_6_atHL := by unfold Statement; rfl
theorem res_6_A : Statement .res_6_A := by unfold Statement; rfl
theorem res_7_B : Statement .res_7_B := by unfold Statement; rfl
theorem res_7_C : Statement .res_7_C := by unfold Statement; rfl
theorem res_7_D : Statement .res_7_D := by unfold Statement; rfl
theorem res_7_E : Statement .res_7_E := by unfold Statement; rfl
theorem res_7_H : Statement .res_7_H := by unfold Statement; rfl
theorem res_7_L : Statement .res_7_L := by unfold Statement; rfl
theorem res_7_atHL : Statement .res_7_atHL := by unfold Statement; rfl
theorem res_7_A : Statement .res_7_A := by unfold Statement; rfl
theorem set_0_B : Statement .set_0_B := by unfold Statement; rfl
theorem set_0_C : Statement .set_0_C := by unfold Statement; rfl
theorem set_0_D : Statement .set_0_D := by unfold Statement; rfl
theorem set_0_E : Statement .set_0_E := by unfold Statement; rfl
theorem set_0_H : Statement .set_0_H := by unfold Statement; rfl
theorem set_0_L : Statement .set_0_L := by unfold Statement; rfl
theorem set_0_atHL : Statement .set_0_atHL := by unfold Statement; rfl
theorem set_0_A : Statement .set_0_A := by unfold Statement; rfl
theorem set_1_B : Statement .set_1_B := by unfold Statement; rfl
theorem set_1_C : Statement .set_1_C := by unfold Statement; rfl
theorem set_1_D : Statement .set_1_D := by unfold Statement; rfl
theorem set_1_E : Statement .set_1_E := by unfold Statement; rfl
theorem set_1_H : Statement .set_1_H := by unfold Statement; rfl
theorem set_1_L : Statement .set_1_L := by unfold Statement; rfl
theorem set_1_atHL : Statement .set_1_atHL := by unfold Statement; rfl
theorem set_1_A : Statement .set_1_A := by unfold Statement; rfl
theorem set_2_B : Statement .set_2_B := by unfold Statement; rfl
theorem set_2_C : Statement .set_2_C := by unfold Statement; rfl
theorem set_2_D : Statement .set_2_D := by unfold Statement; rfl
theorem set_2_E : Statement .set_2_E := by unfold Statement; rfl
theorem set_2_H : Statement .set_2_H := by unfold Statement; rfl
theorem set_2_L : Statement .set_2_L := by unfold Statement; rfl
theorem set_2_atHL : Statement .set_2_atHL := by unfold Statement; rfl
theorem set_2_A : Statement .set_2_A := by unfold Statement; rfl
theorem set_3_B : Statement .set_3_B := by unfold Statement; rfl
theorem set_3_C : Statement .set_3_C := by unfold Statement; rfl
theorem set_3_D : Statement .set_3_D := by unfold Statement; rfl
theorem set_3_E : Statement .set_3_E := by unfold Statement; rfl
theorem set_3_H : Statement .set_3_H := by unfold Statement; rfl
theorem set_3_L : Statement .set_3_L := by unfold Statement; rfl
theorem set_3_atHL : Statement .set_3_atHL := by unfold Statement; rfl
theorem set_3_A : Statement .set_3_A := by unfold Statement; rfl
theorem set_4_B : Statement .set_4_B := by unfold Statement; rfl
theorem set_4_C : Statement .set_4_C := by unfold Statement; rfl
theorem set_4_D : Statement .set_4_D := by unfold Statement; rfl
theorem set_4_E : Statement .set_4_E := by unfold Statement; rfl
theorem set_4_H : Statement .set_4_H := by unfold Statement; rfl
theorem set_4_L : Statement .set_4_L := by unfold Statement; rfl
theorem set_4_atHL : Statement .set_4_atHL := by unfold Statement; rfl
theorem set_4_A : Statement .set_4_A := by unfold Statement; rfl
theorem set_5_B : Statement .set_5_B := by unfold Statement; rfl
theorem set_5_C : Statement .set_5_C := by unfold Statement; rfl
theorem set_5_D : Statement .set_5_D := by unfold Statement; rfl
theorem set_5_E : Statement .set_5_E := by unfold Statement; rfl
theorem set_5_H : Statement .set_5_H := by unfold Statement; rfl
theorem set_5_L : Statement .set_5_L := by unfold Statement; rfl
theorem set_5_atHL : Statement .set_5_atHL := by unfold Statement; rfl
theorem set_5_A : Statement .set_5_A := by unfold Statement; rfl
theorem set_6_B : Statement .set_6_B := by unfold Statement; rfl
theorem set_6_C : Statement .set_6_C := by unfold Statement; rfl
theorem set_6_D : Statement .set_6_D := by unfold Statement; rfl
theorem set_6_E : Statement .set_6_E := by unfold Statement; rfl
theorem set_6_H : Statement .set_6_H := by unfold Statement; rfl
theorem set_6_L : Statement .set_6_L := by unfold Statement; rfl
theorem set_6_atHL : Statement .set_6_atHL := by unfold Statement; rfl
theorem set_6_A : Statement .set_6_A := by unfold Statement; rfl
theorem set_7_B : Statement .set_7_B := by unfold Statement; rfl
theorem set_7_C : Statement .set_7_C := by unfold Statement; rfl
theorem set_7_D : Statement .set_7_D := by unfold Statement; rfl
theorem set_7_E : Statement .set_7_E := by unfold Statement; rfl
theorem set_7_H : Statement .set_7_H := by unfold Statement; rfl
theorem set_7_L : Statement .set_7_L := by unfold Statement; rfl
theorem set_7_atHL : Statement .set_7_atHL := by unfold Statement; rfl
theorem set_7_A : Statement .set_7_A := by unfold Statement; rfl

end Sys2Proof.Laws.Length
end

