-- ==== Sys2Proof/Tests/Slice0.lean ====
section
/-! SUPPORT. The model's own tests. Expected results come from outside the model: the opcode table and the encoding maps of
30_encoding.md for the words, the vectors of 95_test_vectors.md (each test is named after its vector) for the steps. The
theorems named `witness_…` show for each statement with hypotheses states that meet them. -/

namespace Sys2Proof.Tests

open Sys2Proof Sys2Proof.Machine

/-! ### Well-formedness -/

/-- The prefix row is no instruction of the machine (30_encoding.md R127); it is the one form the check refuses. -/
theorem test_prefix_refused : ¬WellFormed (.prefix_CB 0x37) := by decide

/-- The page's own instruction is accepted. -/
theorem test_page_accepted : WellFormed (.swap_A) ∧ WellFormed (.stop_n8 0x5A) ∧ WellFormed .illegal_D3 := by decide

/-! ### Words of the opcode table, every row of both pages; the operand bytes are 5A, or 34 12 for the word 1234 -/

/-- The words decode to the instructions, whole. -/
abbrev decodesTo (words : List (List Byte)) (instrs : List Instr) : Prop :=
  words.map decode = instrs.map fun i => .ok (i, [])

theorem test_words_00 : decodesTo [
    [0x00], [0x01, 0x34, 0x12], [0x02], [0x03], [0x04], [0x05], [0x06, 0x5A], [0x07], [0x08, 0x34, 0x12], [0x09],
    [0x0A], [0x0B], [0x0C], [0x0D], [0x0E, 0x5A], [0x0F]] [
    .nop, .ld_BC_n16 0x1234, .ld_atBC_A, .inc_BC, .inc_B, .dec_B, .ld_B_n8 0x5A, .rlca, .ld_atn16_SP 0x1234,
    .add_HL_BC, .ld_A_atBC, .dec_BC, .inc_C, .dec_C, .ld_C_n8 0x5A, .rrca] := rfl
theorem test_words_10 : decodesTo [
    [0x10, 0x5A], [0x11, 0x34, 0x12], [0x12], [0x13], [0x14], [0x15], [0x16, 0x5A], [0x17], [0x18, 0x5A], [0x19],
    [0x1A], [0x1B], [0x1C], [0x1D], [0x1E, 0x5A], [0x1F]] [
    .stop_n8 0x5A, .ld_DE_n16 0x1234, .ld_atDE_A, .inc_DE, .inc_D, .dec_D, .ld_D_n8 0x5A, .rla, .jr_e8 0x5A,
    .add_HL_DE, .ld_A_atDE, .dec_DE, .inc_E, .dec_E, .ld_E_n8 0x5A, .rra] := rfl
theorem test_words_20 : decodesTo [
    [0x20, 0x5A], [0x21, 0x34, 0x12], [0x22], [0x23], [0x24], [0x25], [0x26, 0x5A], [0x27], [0x28, 0x5A], [0x29],
    [0x2A], [0x2B], [0x2C], [0x2D], [0x2E, 0x5A], [0x2F]] [
    .jr_NZ_e8 0x5A, .ld_HL_n16 0x1234, .ld_atHLinc_A, .inc_HL, .inc_H, .dec_H, .ld_H_n8 0x5A, .daa, .jr_Z_e8 0x5A,
    .add_HL_HL, .ld_A_atHLinc, .dec_HL, .inc_L, .dec_L, .ld_L_n8 0x5A, .cpl] := rfl
theorem test_words_30 : decodesTo [
    [0x30, 0x5A], [0x31, 0x34, 0x12], [0x32], [0x33], [0x34], [0x35], [0x36, 0x5A], [0x37], [0x38, 0x5A], [0x39],
    [0x3A], [0x3B], [0x3C], [0x3D], [0x3E, 0x5A], [0x3F]] [
    .jr_NC_e8 0x5A, .ld_SP_n16 0x1234, .ld_atHLdec_A, .inc_SP, .inc_atHL, .dec_atHL, .ld_atHL_n8 0x5A, .scf,
    .jr_C_e8 0x5A, .add_HL_SP, .ld_A_atHLdec, .dec_SP, .inc_A, .dec_A, .ld_A_n8 0x5A, .ccf] := rfl
theorem test_words_40 : decodesTo [
    [0x40], [0x41], [0x42], [0x43], [0x44], [0x45], [0x46], [0x47], [0x48], [0x49], [0x4A], [0x4B], [0x4C], [0x4D],
    [0x4E], [0x4F]] [
    .ld_B_B, .ld_B_C, .ld_B_D, .ld_B_E, .ld_B_H, .ld_B_L, .ld_B_atHL, .ld_B_A, .ld_C_B, .ld_C_C, .ld_C_D, .ld_C_E,
    .ld_C_H, .ld_C_L, .ld_C_atHL, .ld_C_A] := rfl
theorem test_words_50 : decodesTo [
    [0x50], [0x51], [0x52], [0x53], [0x54], [0x55], [0x56], [0x57], [0x58], [0x59], [0x5A], [0x5B], [0x5C], [0x5D],
    [0x5E], [0x5F]] [
    .ld_D_B, .ld_D_C, .ld_D_D, .ld_D_E, .ld_D_H, .ld_D_L, .ld_D_atHL, .ld_D_A, .ld_E_B, .ld_E_C, .ld_E_D, .ld_E_E,
    .ld_E_H, .ld_E_L, .ld_E_atHL, .ld_E_A] := rfl
theorem test_words_60 : decodesTo [
    [0x60], [0x61], [0x62], [0x63], [0x64], [0x65], [0x66], [0x67], [0x68], [0x69], [0x6A], [0x6B], [0x6C], [0x6D],
    [0x6E], [0x6F]] [
    .ld_H_B, .ld_H_C, .ld_H_D, .ld_H_E, .ld_H_H, .ld_H_L, .ld_H_atHL, .ld_H_A, .ld_L_B, .ld_L_C, .ld_L_D, .ld_L_E,
    .ld_L_H, .ld_L_L, .ld_L_atHL, .ld_L_A] := rfl
theorem test_words_70 : decodesTo [
    [0x70], [0x71], [0x72], [0x73], [0x74], [0x75], [0x76], [0x77], [0x78], [0x79], [0x7A], [0x7B], [0x7C], [0x7D],
    [0x7E], [0x7F]] [
    .ld_atHL_B, .ld_atHL_C, .ld_atHL_D, .ld_atHL_E, .ld_atHL_H, .ld_atHL_L, .halt, .ld_atHL_A, .ld_A_B, .ld_A_C,
    .ld_A_D, .ld_A_E, .ld_A_H, .ld_A_L, .ld_A_atHL, .ld_A_A] := rfl
theorem test_words_80 : decodesTo [
    [0x80], [0x81], [0x82], [0x83], [0x84], [0x85], [0x86], [0x87], [0x88], [0x89], [0x8A], [0x8B], [0x8C], [0x8D],
    [0x8E], [0x8F]] [
    .add_A_B, .add_A_C, .add_A_D, .add_A_E, .add_A_H, .add_A_L, .add_A_atHL, .add_A_A, .adc_A_B, .adc_A_C, .adc_A_D,
    .adc_A_E, .adc_A_H, .adc_A_L, .adc_A_atHL, .adc_A_A] := rfl
theorem test_words_90 : decodesTo [
    [0x90], [0x91], [0x92], [0x93], [0x94], [0x95], [0x96], [0x97], [0x98], [0x99], [0x9A], [0x9B], [0x9C], [0x9D],
    [0x9E], [0x9F]] [
    .sub_A_B, .sub_A_C, .sub_A_D, .sub_A_E, .sub_A_H, .sub_A_L, .sub_A_atHL, .sub_A_A, .sbc_A_B, .sbc_A_C, .sbc_A_D,
    .sbc_A_E, .sbc_A_H, .sbc_A_L, .sbc_A_atHL, .sbc_A_A] := rfl
theorem test_words_A0 : decodesTo [
    [0xA0], [0xA1], [0xA2], [0xA3], [0xA4], [0xA5], [0xA6], [0xA7], [0xA8], [0xA9], [0xAA], [0xAB], [0xAC], [0xAD],
    [0xAE], [0xAF]] [
    .and_A_B, .and_A_C, .and_A_D, .and_A_E, .and_A_H, .and_A_L, .and_A_atHL, .and_A_A, .xor_A_B, .xor_A_C, .xor_A_D,
    .xor_A_E, .xor_A_H, .xor_A_L, .xor_A_atHL, .xor_A_A] := rfl
theorem test_words_B0 : decodesTo [
    [0xB0], [0xB1], [0xB2], [0xB3], [0xB4], [0xB5], [0xB6], [0xB7], [0xB8], [0xB9], [0xBA], [0xBB], [0xBC], [0xBD],
    [0xBE], [0xBF]] [
    .or_A_B, .or_A_C, .or_A_D, .or_A_E, .or_A_H, .or_A_L, .or_A_atHL, .or_A_A, .cp_A_B, .cp_A_C, .cp_A_D, .cp_A_E,
    .cp_A_H, .cp_A_L, .cp_A_atHL, .cp_A_A] := rfl
theorem test_words_C0 : decodesTo [
    [0xC0], [0xC1], [0xC2, 0x34, 0x12], [0xC3, 0x34, 0x12], [0xC4, 0x34, 0x12], [0xC5], [0xC6, 0x5A], [0xC7], [0xC8],
    [0xC9], [0xCA, 0x34, 0x12], [0xCC, 0x34, 0x12], [0xCD, 0x34, 0x12], [0xCE, 0x5A], [0xCF]] [
    .ret_NZ, .pop_BC, .jp_NZ_n16 0x1234, .jp_n16 0x1234, .call_NZ_n16 0x1234, .push_BC, .add_A_n8 0x5A, .rst_00,
    .ret_Z, .ret, .jp_Z_n16 0x1234, .call_Z_n16 0x1234, .call_n16 0x1234, .adc_A_n8 0x5A, .rst_08] := rfl
theorem test_words_D0 : decodesTo [
    [0xD0], [0xD1], [0xD2, 0x34, 0x12], [0xD3], [0xD4, 0x34, 0x12], [0xD5], [0xD6, 0x5A], [0xD7], [0xD8], [0xD9],
    [0xDA, 0x34, 0x12], [0xDB], [0xDC, 0x34, 0x12], [0xDD], [0xDE, 0x5A], [0xDF]] [
    .ret_NC, .pop_DE, .jp_NC_n16 0x1234, .illegal_D3, .call_NC_n16 0x1234, .push_DE, .sub_A_n8 0x5A, .rst_10, .ret_C,
    .reti, .jp_C_n16 0x1234, .illegal_DB, .call_C_n16 0x1234, .illegal_DD, .sbc_A_n8 0x5A, .rst_18] := rfl
theorem test_words_E0 : decodesTo [
    [0xE0, 0x5A], [0xE1], [0xE2], [0xE3], [0xE4], [0xE5], [0xE6, 0x5A], [0xE7], [0xE8, 0x5A], [0xE9],
    [0xEA, 0x34, 0x12], [0xEB], [0xEC], [0xED], [0xEE, 0x5A], [0xEF]] [
    .ldh_atn8_A 0x5A, .pop_HL, .ldh_atC_A, .illegal_E3, .illegal_E4, .push_HL, .and_A_n8 0x5A, .rst_20,
    .add_SP_e8 0x5A, .jp_HL, .ld_atn16_A 0x1234, .illegal_EB, .illegal_EC, .illegal_ED, .xor_A_n8 0x5A, .rst_28] := rfl
theorem test_words_F0 : decodesTo [
    [0xF0, 0x5A], [0xF1], [0xF2], [0xF3], [0xF4], [0xF5], [0xF6, 0x5A], [0xF7], [0xF8, 0x5A], [0xF9],
    [0xFA, 0x34, 0x12], [0xFB], [0xFC], [0xFD], [0xFE, 0x5A], [0xFF]] [
    .ldh_A_atn8 0x5A, .pop_AF, .ldh_A_atC, .di, .illegal_F4, .push_AF, .or_A_n8 0x5A, .rst_30, .ld_HL_SPe8 0x5A,
    .ld_SP_HL, .ld_A_atn16 0x1234, .ei, .illegal_FC, .illegal_FD, .cp_A_n8 0x5A, .rst_38] := rfl
theorem test_words_CB_00 : decodesTo [
    [0xCB, 0x00], [0xCB, 0x01], [0xCB, 0x02], [0xCB, 0x03], [0xCB, 0x04], [0xCB, 0x05], [0xCB, 0x06], [0xCB, 0x07],
    [0xCB, 0x08], [0xCB, 0x09], [0xCB, 0x0A], [0xCB, 0x0B], [0xCB, 0x0C], [0xCB, 0x0D], [0xCB, 0x0E], [0xCB, 0x0F]] [
    .rlc_B, .rlc_C, .rlc_D, .rlc_E, .rlc_H, .rlc_L, .rlc_atHL, .rlc_A, .rrc_B, .rrc_C, .rrc_D, .rrc_E, .rrc_H,
    .rrc_L, .rrc_atHL, .rrc_A] := rfl
theorem test_words_CB_10 : decodesTo [
    [0xCB, 0x10], [0xCB, 0x11], [0xCB, 0x12], [0xCB, 0x13], [0xCB, 0x14], [0xCB, 0x15], [0xCB, 0x16], [0xCB, 0x17],
    [0xCB, 0x18], [0xCB, 0x19], [0xCB, 0x1A], [0xCB, 0x1B], [0xCB, 0x1C], [0xCB, 0x1D], [0xCB, 0x1E], [0xCB, 0x1F]] [
    .rl_B, .rl_C, .rl_D, .rl_E, .rl_H, .rl_L, .rl_atHL, .rl_A, .rr_B, .rr_C, .rr_D, .rr_E, .rr_H, .rr_L, .rr_atHL,
    .rr_A] := rfl
theorem test_words_CB_20 : decodesTo [
    [0xCB, 0x20], [0xCB, 0x21], [0xCB, 0x22], [0xCB, 0x23], [0xCB, 0x24], [0xCB, 0x25], [0xCB, 0x26], [0xCB, 0x27],
    [0xCB, 0x28], [0xCB, 0x29], [0xCB, 0x2A], [0xCB, 0x2B], [0xCB, 0x2C], [0xCB, 0x2D], [0xCB, 0x2E], [0xCB, 0x2F]] [
    .sla_B, .sla_C, .sla_D, .sla_E, .sla_H, .sla_L, .sla_atHL, .sla_A, .sra_B, .sra_C, .sra_D, .sra_E, .sra_H,
    .sra_L, .sra_atHL, .sra_A] := rfl
theorem test_words_CB_30 : decodesTo [
    [0xCB, 0x30], [0xCB, 0x31], [0xCB, 0x32], [0xCB, 0x33], [0xCB, 0x34], [0xCB, 0x35], [0xCB, 0x36], [0xCB, 0x37],
    [0xCB, 0x38], [0xCB, 0x39], [0xCB, 0x3A], [0xCB, 0x3B], [0xCB, 0x3C], [0xCB, 0x3D], [0xCB, 0x3E], [0xCB, 0x3F]] [
    .swap_B, .swap_C, .swap_D, .swap_E, .swap_H, .swap_L, .swap_atHL, .swap_A, .srl_B, .srl_C, .srl_D, .srl_E,
    .srl_H, .srl_L, .srl_atHL, .srl_A] := rfl
theorem test_words_CB_40 : decodesTo [
    [0xCB, 0x40], [0xCB, 0x41], [0xCB, 0x42], [0xCB, 0x43], [0xCB, 0x44], [0xCB, 0x45], [0xCB, 0x46], [0xCB, 0x47],
    [0xCB, 0x48], [0xCB, 0x49], [0xCB, 0x4A], [0xCB, 0x4B], [0xCB, 0x4C], [0xCB, 0x4D], [0xCB, 0x4E], [0xCB, 0x4F]] [
    .bit_0_B, .bit_0_C, .bit_0_D, .bit_0_E, .bit_0_H, .bit_0_L, .bit_0_atHL, .bit_0_A, .bit_1_B, .bit_1_C, .bit_1_D,
    .bit_1_E, .bit_1_H, .bit_1_L, .bit_1_atHL, .bit_1_A] := rfl
theorem test_words_CB_50 : decodesTo [
    [0xCB, 0x50], [0xCB, 0x51], [0xCB, 0x52], [0xCB, 0x53], [0xCB, 0x54], [0xCB, 0x55], [0xCB, 0x56], [0xCB, 0x57],
    [0xCB, 0x58], [0xCB, 0x59], [0xCB, 0x5A], [0xCB, 0x5B], [0xCB, 0x5C], [0xCB, 0x5D], [0xCB, 0x5E], [0xCB, 0x5F]] [
    .bit_2_B, .bit_2_C, .bit_2_D, .bit_2_E, .bit_2_H, .bit_2_L, .bit_2_atHL, .bit_2_A, .bit_3_B, .bit_3_C, .bit_3_D,
    .bit_3_E, .bit_3_H, .bit_3_L, .bit_3_atHL, .bit_3_A] := rfl
theorem test_words_CB_60 : decodesTo [
    [0xCB, 0x60], [0xCB, 0x61], [0xCB, 0x62], [0xCB, 0x63], [0xCB, 0x64], [0xCB, 0x65], [0xCB, 0x66], [0xCB, 0x67],
    [0xCB, 0x68], [0xCB, 0x69], [0xCB, 0x6A], [0xCB, 0x6B], [0xCB, 0x6C], [0xCB, 0x6D], [0xCB, 0x6E], [0xCB, 0x6F]] [
    .bit_4_B, .bit_4_C, .bit_4_D, .bit_4_E, .bit_4_H, .bit_4_L, .bit_4_atHL, .bit_4_A, .bit_5_B, .bit_5_C, .bit_5_D,
    .bit_5_E, .bit_5_H, .bit_5_L, .bit_5_atHL, .bit_5_A] := rfl
theorem test_words_CB_70 : decodesTo [
    [0xCB, 0x70], [0xCB, 0x71], [0xCB, 0x72], [0xCB, 0x73], [0xCB, 0x74], [0xCB, 0x75], [0xCB, 0x76], [0xCB, 0x77],
    [0xCB, 0x78], [0xCB, 0x79], [0xCB, 0x7A], [0xCB, 0x7B], [0xCB, 0x7C], [0xCB, 0x7D], [0xCB, 0x7E], [0xCB, 0x7F]] [
    .bit_6_B, .bit_6_C, .bit_6_D, .bit_6_E, .bit_6_H, .bit_6_L, .bit_6_atHL, .bit_6_A, .bit_7_B, .bit_7_C, .bit_7_D,
    .bit_7_E, .bit_7_H, .bit_7_L, .bit_7_atHL, .bit_7_A] := rfl
theorem test_words_CB_80 : decodesTo [
    [0xCB, 0x80], [0xCB, 0x81], [0xCB, 0x82], [0xCB, 0x83], [0xCB, 0x84], [0xCB, 0x85], [0xCB, 0x86], [0xCB, 0x87],
    [0xCB, 0x88], [0xCB, 0x89], [0xCB, 0x8A], [0xCB, 0x8B], [0xCB, 0x8C], [0xCB, 0x8D], [0xCB, 0x8E], [0xCB, 0x8F]] [
    .res_0_B, .res_0_C, .res_0_D, .res_0_E, .res_0_H, .res_0_L, .res_0_atHL, .res_0_A, .res_1_B, .res_1_C, .res_1_D,
    .res_1_E, .res_1_H, .res_1_L, .res_1_atHL, .res_1_A] := rfl
theorem test_words_CB_90 : decodesTo [
    [0xCB, 0x90], [0xCB, 0x91], [0xCB, 0x92], [0xCB, 0x93], [0xCB, 0x94], [0xCB, 0x95], [0xCB, 0x96], [0xCB, 0x97],
    [0xCB, 0x98], [0xCB, 0x99], [0xCB, 0x9A], [0xCB, 0x9B], [0xCB, 0x9C], [0xCB, 0x9D], [0xCB, 0x9E], [0xCB, 0x9F]] [
    .res_2_B, .res_2_C, .res_2_D, .res_2_E, .res_2_H, .res_2_L, .res_2_atHL, .res_2_A, .res_3_B, .res_3_C, .res_3_D,
    .res_3_E, .res_3_H, .res_3_L, .res_3_atHL, .res_3_A] := rfl
theorem test_words_CB_A0 : decodesTo [
    [0xCB, 0xA0], [0xCB, 0xA1], [0xCB, 0xA2], [0xCB, 0xA3], [0xCB, 0xA4], [0xCB, 0xA5], [0xCB, 0xA6], [0xCB, 0xA7],
    [0xCB, 0xA8], [0xCB, 0xA9], [0xCB, 0xAA], [0xCB, 0xAB], [0xCB, 0xAC], [0xCB, 0xAD], [0xCB, 0xAE], [0xCB, 0xAF]] [
    .res_4_B, .res_4_C, .res_4_D, .res_4_E, .res_4_H, .res_4_L, .res_4_atHL, .res_4_A, .res_5_B, .res_5_C, .res_5_D,
    .res_5_E, .res_5_H, .res_5_L, .res_5_atHL, .res_5_A] := rfl
theorem test_words_CB_B0 : decodesTo [
    [0xCB, 0xB0], [0xCB, 0xB1], [0xCB, 0xB2], [0xCB, 0xB3], [0xCB, 0xB4], [0xCB, 0xB5], [0xCB, 0xB6], [0xCB, 0xB7],
    [0xCB, 0xB8], [0xCB, 0xB9], [0xCB, 0xBA], [0xCB, 0xBB], [0xCB, 0xBC], [0xCB, 0xBD], [0xCB, 0xBE], [0xCB, 0xBF]] [
    .res_6_B, .res_6_C, .res_6_D, .res_6_E, .res_6_H, .res_6_L, .res_6_atHL, .res_6_A, .res_7_B, .res_7_C, .res_7_D,
    .res_7_E, .res_7_H, .res_7_L, .res_7_atHL, .res_7_A] := rfl
theorem test_words_CB_C0 : decodesTo [
    [0xCB, 0xC0], [0xCB, 0xC1], [0xCB, 0xC2], [0xCB, 0xC3], [0xCB, 0xC4], [0xCB, 0xC5], [0xCB, 0xC6], [0xCB, 0xC7],
    [0xCB, 0xC8], [0xCB, 0xC9], [0xCB, 0xCA], [0xCB, 0xCB], [0xCB, 0xCC], [0xCB, 0xCD], [0xCB, 0xCE], [0xCB, 0xCF]] [
    .set_0_B, .set_0_C, .set_0_D, .set_0_E, .set_0_H, .set_0_L, .set_0_atHL, .set_0_A, .set_1_B, .set_1_C, .set_1_D,
    .set_1_E, .set_1_H, .set_1_L, .set_1_atHL, .set_1_A] := rfl
theorem test_words_CB_D0 : decodesTo [
    [0xCB, 0xD0], [0xCB, 0xD1], [0xCB, 0xD2], [0xCB, 0xD3], [0xCB, 0xD4], [0xCB, 0xD5], [0xCB, 0xD6], [0xCB, 0xD7],
    [0xCB, 0xD8], [0xCB, 0xD9], [0xCB, 0xDA], [0xCB, 0xDB], [0xCB, 0xDC], [0xCB, 0xDD], [0xCB, 0xDE], [0xCB, 0xDF]] [
    .set_2_B, .set_2_C, .set_2_D, .set_2_E, .set_2_H, .set_2_L, .set_2_atHL, .set_2_A, .set_3_B, .set_3_C, .set_3_D,
    .set_3_E, .set_3_H, .set_3_L, .set_3_atHL, .set_3_A] := rfl
theorem test_words_CB_E0 : decodesTo [
    [0xCB, 0xE0], [0xCB, 0xE1], [0xCB, 0xE2], [0xCB, 0xE3], [0xCB, 0xE4], [0xCB, 0xE5], [0xCB, 0xE6], [0xCB, 0xE7],
    [0xCB, 0xE8], [0xCB, 0xE9], [0xCB, 0xEA], [0xCB, 0xEB], [0xCB, 0xEC], [0xCB, 0xED], [0xCB, 0xEE], [0xCB, 0xEF]] [
    .set_4_B, .set_4_C, .set_4_D, .set_4_E, .set_4_H, .set_4_L, .set_4_atHL, .set_4_A, .set_5_B, .set_5_C, .set_5_D,
    .set_5_E, .set_5_H, .set_5_L, .set_5_atHL, .set_5_A] := rfl
theorem test_words_CB_F0 : decodesTo [
    [0xCB, 0xF0], [0xCB, 0xF1], [0xCB, 0xF2], [0xCB, 0xF3], [0xCB, 0xF4], [0xCB, 0xF5], [0xCB, 0xF6], [0xCB, 0xF7],
    [0xCB, 0xF8], [0xCB, 0xF9], [0xCB, 0xFA], [0xCB, 0xFB], [0xCB, 0xFC], [0xCB, 0xFD], [0xCB, 0xFE], [0xCB, 0xFF]] [
    .set_6_B, .set_6_C, .set_6_D, .set_6_E, .set_6_H, .set_6_L, .set_6_atHL, .set_6_A, .set_7_B, .set_7_C, .set_7_D,
    .set_7_E, .set_7_H, .set_7_L, .set_7_atHL, .set_7_A] := rfl

/-! One word of each family bit by bit, from the maps of 30_encoding.md R128 to R132. -/

theorem test_bits_ld : decode [0b01000001] = .ok (.ld_B_C, []) := rfl
theorem test_bits_alu : decode [0b10011110] = .ok (.sbc_A_atHL, []) := rfl
theorem test_bits_inc : decode [0b00110100] = .ok (.inc_atHL, []) := rfl
theorem test_bits_addHL : decode [0b00111001] = .ok (.add_HL_SP, []) := rfl
theorem test_bits_jp : decode [0b11011010, 0x34, 0x12] = .ok (.jp_C_n16 0x1234, []) := rfl
theorem test_bits_push : decode [0b11110101] = .ok (.push_AF, []) := rfl
theorem test_bits_rst : decode [0b11101111] = .ok (.rst_28, []) := rfl
theorem test_bits_set : decode [0b11001011, 0b11001011] = .ok (.set_1_E, []) := rfl
theorem test_bits_ei : decode [0b11111011] = .ok (.ei, []) := rfl

/-- The table's numbering of a row of each page, and its operands at zero (log 12). -/
theorem test_table_words :
    decodeTableWord 8 0xFE = some (.cp_A_n8 0x00) ∧ decodeTableWord 16 0xCB37 = some .swap_A ∧
      decodeTableWord 8 0x01 = some (.ld_BC_n16 0x0000) := ⟨rfl, rfl, rfl⟩

theorem test_no_bytes : decode [] = .error .noBytes := rfl
theorem test_truncated : decode [0x01, 0x34] = .error (.truncated 0x01) := rfl

/-! ### Steps: the vectors of 95_test_vectors.md -/

/-- The machine after reset with bytes in the cartridge image (or in RAM) from `pc` up, and PC there. -/
def code (pc : Word) (bytes : List Byte) : State := loadBytes bytes pc { State.reset with pc := pc }

/-- Bytes placed at bus addresses that are their own storage keys. -/
def put (cells : List (Word × Byte)) (s : State) : State :=
  match cells with
  | [] => s
  | (a, v) :: rest => put rest { s with mem := s.mem.write a.toNat v }

/-- The device of section 2.9 that rejects every access to one address. -/
def rejectAll (a : Word) : IoDevice := .rejecting [(a, .read), (a, .write), (a, .peek)]

/-- One step from `s` returns `n` and gives the state `change s` with the writes made, and no other. -/
def stepGives (s : State) (n : Nat) (change : State → State) (writes : List (Word × Byte)) : Bool :=
  match step s with
  | .next t => decide (t = put writes { change s with cycles := n })
  | .fault _ => false
  | .refused _ => false

/-- One step from `s` fails with `f`. -/
def failsWith (s : State) (f : Fault) : Bool :=
  match step s with
  | .next _ => false
  | .fault g => decide (g = f)
  | .refused _ => false

theorem test_VL1 :
    stepGives ({ code 0x0100 [0x41] with bc := 0x005A }) 1
      (fun s => { s with bc := 0x5A5A, pc := 0x0101 }) [] = true := by
  decide
theorem test_VL2 :
    stepGives ({ code 0x0100 [0x7F] with af := 0x3CB0 }) 1 (fun s => { s with pc := 0x0101 }) [] = true := by
  decide
theorem test_VL3 :
    stepGives (put [(0xC010, 0x99)] { code 0x0100 [0x56] with hl := 0xC010 }) 2
      (fun s => { s with de := 0x9900, pc := 0x0101 }) [] = true := by
  decide
theorem test_VL4 :
    stepGives ({ code 0x0100 [0x74] with hl := 0xC123 }) 2
      (fun s => { s with pc := 0x0101 }) [(0xC123, 0xC1)] = true := by
  decide
theorem test_VL5 :
    stepGives (code 0x0100 [0x1E, 0x7F]) 2 (fun s => { s with de := 0x007F, pc := 0x0102 }) [] = true := by
  decide
theorem test_VL6 :
    stepGives ({ code 0x0100 [0x36, 0xAB] with hl := 0xFF90 }) 3
      (fun s => { s with pc := 0x0102 }) [(0xFF90, 0xAB)] = true := by
  decide
theorem test_VL7 :
    stepGives ({ code 0x0100 [0x02] with af := 0x1100, bc := 0xC200 }) 2
      (fun s => { s with pc := 0x0101 }) [(0xC200, 0x11)] = true := by
  decide
theorem test_VL8 :
    stepGives (put [(0xC005, 0x42)] { code 0x0100 [0x1A] with de := 0xE005 }) 2
      (fun s => { s with af := 0x4200, pc := 0x0101 }) [] = true := by
  decide
theorem test_VL9 :
    stepGives ({ code 0x0100 [0x22] with af := 0x1F00, hl := 0xFFFF }) 2
      (fun s => { s with hl := 0x0000, pc := 0x0101 }) [(0xFFFF, 0x1F)] = true := by
  decide
theorem test_VL10 :
    stepGives (put [(0x0000, 0x77)] (code 0x0100 [0x3A])) 2
      (fun s => { s with af := 0x7700, hl := 0xFFFF, pc := 0x0101 }) [] = true := by
  decide
theorem test_VL11 :
    stepGives ({ code 0x0100 [0xEA, 0x34, 0xC2] with af := 0x5500 }) 4
      (fun s => { s with pc := 0x0103 }) [(0xC234, 0x55)] = true := by
  decide
theorem test_VL12 :
    stepGives ({ code 0x0100 [0xFA, 0xA5, 0xFE] with af := 0x1200 }) 4
      (fun s => { s with af := 0xFF00, pc := 0x0103 }) [] = true := by
  decide
theorem test_VL13 :
    stepGives ({ code 0x0100 [0xE0, 0x80] with af := 0x6600 }) 3
      (fun s => { s with pc := 0x0102 }) [(0xFF80, 0x66)] = true := by
  decide
theorem test_VL14 :
    stepGives (put [(0xFF0F, 0x05)] (code 0x0100 [0xF0, 0x0F])) 3
      (fun s => { s with af := 0x0500, pc := 0x0102 }) [] = true := by
  decide
theorem test_VL15 :
    stepGives ({ code 0x0100 [0xE2] with af := 0x1D00, bc := 0x00FF }) 2
      (fun s => { s with pc := 0x0101 }) [(0xFFFF, 0x1D)] = true := by
  decide
theorem test_VL16 :
    stepGives (put [(0xFF81, 0xC3)] { code 0x0100 [0xF2] with bc := 0x0081 }) 2
      (fun s => { s with af := 0xC300, pc := 0x0101 }) [] = true := by
  decide
theorem test_VL17 :
    stepGives (code 0x0100 [0x31, 0xFE, 0xFF]) 3 (fun s => { s with sp := 0xFFFE, pc := 0x0103 }) [] = true := by
  decide
theorem test_VL18 :
    stepGives (code 0x0100 [0x21, 0x34, 0x12]) 3 (fun s => { s with hl := 0x1234, pc := 0x0103 }) [] = true := by
  decide
theorem test_VL19 :
    stepGives ({ code 0x0100 [0x77] with af := 0x9900, hl := 0x2000 }) 2
      (fun s => { s with pc := 0x0101 }) [] = true := by
  decide
theorem test_VA1 :
    stepGives ({ code 0x0100 [0x80] with af := 0x3A00, bc := 0xC600 }) 1
      (fun s => { s with af := 0x00B0, pc := 0x0101 }) [] = true := by
  decide
theorem test_VA2 :
    stepGives ({ code 0x0100 [0x87] with af := 0x8000 }) 1
      (fun s => { s with af := 0x0090, pc := 0x0101 }) [] = true := by
  decide
theorem test_VA3 :
    stepGives ({ code 0x0100 [0xC6, 0x01] with af := 0x0F00 }) 2
      (fun s => { s with af := 0x1020, pc := 0x0102 }) [] = true := by
  decide
theorem test_VA4 :
    stepGives (put [(0xC000, 0x34)] { code 0x0100 [0x86] with af := 0x1200, hl := 0xC000 }) 2
      (fun s => { s with af := 0x4600, pc := 0x0101 }) [] = true := by
  decide
theorem test_VA5 :
    stepGives ({ code 0x0100 [0xCE, 0x0F] with af := 0xE110 }) 2
      (fun s => { s with af := 0xF120, pc := 0x0102 }) [] = true := by
  decide
theorem test_VA6 :
    stepGives (put [(0xC000, 0x00)] { code 0x0100 [0x8E] with af := 0x0F10, hl := 0xC000 }) 2
      (fun s => { s with af := 0x1020, pc := 0x0101 }) [] = true := by
  decide
theorem test_VA7 :
    stepGives ({ code 0x0100 [0x8F] with af := 0xFF10 }) 1
      (fun s => { s with af := 0xFF30, pc := 0x0101 }) [] = true := by
  decide
theorem test_VA8 :
    stepGives ({ code 0x0100 [0x93] with af := 0x3E00, de := 0x003E }) 1
      (fun s => { s with af := 0x00C0, pc := 0x0101 }) [] = true := by
  decide
theorem test_VA9 :
    stepGives ({ code 0x0100 [0xD6, 0x0F] with af := 0x3E00 }) 2
      (fun s => { s with af := 0x2F60, pc := 0x0102 }) [] = true := by
  decide
theorem test_VA11 :
    stepGives ({ code 0x0100 [0x97] with af := 0x5AF0 }) 1
      (fun s => { s with af := 0x00C0, pc := 0x0101 }) [] = true := by
  decide
theorem test_VA12 :
    stepGives ({ code 0x0100 [0x9C] with af := 0x3B10, hl := 0x2A00 }) 1
      (fun s => { s with af := 0x1040, pc := 0x0101 }) [] = true := by
  decide
theorem test_VA13 :
    stepGives ({ code 0x0100 [0xDE, 0xFF] with af := 0x0010 }) 2
      (fun s => { s with af := 0x00F0, pc := 0x0102 }) [] = true := by
  decide
theorem test_VA14 :
    stepGives ({ code 0x0100 [0x9F] with af := 0x4210 }) 1
      (fun s => { s with af := 0xFF70, pc := 0x0101 }) [] = true := by
  decide
theorem test_VA15 :
    stepGives (put [(0xC000, 0x01)] { code 0x0100 [0x9E] with af := 0x1000, hl := 0xC000 }) 2
      (fun s => { s with af := 0x0F60, pc := 0x0101 }) [] = true := by
  decide
theorem test_VA16 :
    stepGives ({ code 0x0100 [0xE6, 0x38] with af := 0x5A50 }) 2
      (fun s => { s with af := 0x1820, pc := 0x0102 }) [] = true := by
  decide
theorem test_VA17 :
    stepGives ({ code 0x0100 [0xA0] with af := 0xF000, bc := 0x0F00 }) 1
      (fun s => { s with af := 0x00A0, pc := 0x0101 }) [] = true := by
  decide
theorem test_VA18 :
    stepGives (put [(0xC000, 0x81)] { code 0x0100 [0xA6] with af := 0xFF00, hl := 0xC000 }) 2
      (fun s => { s with af := 0x8120, pc := 0x0101 }) [] = true := by
  decide
theorem test_VA19 :
    stepGives ({ code 0x0100 [0xAF] with af := 0x7770 }) 1
      (fun s => { s with af := 0x0080, pc := 0x0101 }) [] = true := by
  decide
theorem test_VA20 :
    stepGives ({ code 0x0100 [0xEE, 0xFF] with af := 0x0F00 }) 2
      (fun s => { s with af := 0xF000, pc := 0x0102 }) [] = true := by
  decide
theorem test_VA21 :
    stepGives (put [(0xC000, 0x0F)] { code 0x0100 [0xAE] with af := 0x0F00, hl := 0xC000 }) 2
      (fun s => { s with af := 0x0080, pc := 0x0101 }) [] = true := by
  decide
theorem test_VA22 :
    stepGives (put [(0xC000, 0x0F)] { code 0x0100 [0xB6] with af := 0x5A00, hl := 0xC000 }) 2
      (fun s => { s with af := 0x5F00, pc := 0x0101 }) [] = true := by
  decide
theorem test_VA23 :
    stepGives ({ code 0x0100 [0xB1] with af := 0x0070 }) 1
      (fun s => { s with af := 0x0080, pc := 0x0101 }) [] = true := by
  decide
theorem test_VA24 :
    stepGives ({ code 0x0100 [0xF6, 0x80] with af := 0x0100 }) 2
      (fun s => { s with af := 0x8100, pc := 0x0102 }) [] = true := by
  decide
theorem test_VA25 :
    stepGives ({ code 0x0100 [0xFE, 0x40] with af := 0x3C00 }) 2
      (fun s => { s with af := 0x3C50, pc := 0x0102 }) [] = true := by
  decide
theorem test_VA27 :
    stepGives ({ code 0x0100 [0xBF] with af := 0x3C00 }) 1
      (fun s => { s with af := 0x3CC0, pc := 0x0101 }) [] = true := by
  decide
theorem test_VA28 :
    stepGives (put [(0xC000, 0x3C)] { code 0x0100 [0xBE] with af := 0x3C00, hl := 0xC000 }) 2
      (fun s => { s with af := 0x3CC0, pc := 0x0101 }) [] = true := by
  decide
theorem test_VA29 :
    stepGives ({ code 0x0100 [0x3C] with af := 0xFF10 }) 1
      (fun s => { s with af := 0x00B0, pc := 0x0101 }) [] = true := by
  decide
theorem test_VA30 :
    stepGives ({ code 0x0100 [0x04] with bc := 0x0F00 }) 1
      (fun s => { s with af := 0x0020, bc := 0x1000, pc := 0x0101 }) [] = true := by
  decide
theorem test_VA31 :
    stepGives (put [(0xC000, 0x7F)] { code 0x0100 [0x34] with hl := 0xC000 }) 3
      (fun s => { s with af := 0x0020, pc := 0x0101 }) [(0xC000, 0x80)] = true := by
  decide
theorem test_VA32 :
    stepGives ({ code 0x0100 [0x0D] with bc := 0x0001 }) 1
      (fun s => { s with af := 0x00C0, bc := 0x0000, pc := 0x0101 }) [] = true := by
  decide
theorem test_VA33 :
    stepGives ({ code 0x0100 [0x15] with af := 0x0010 }) 1
      (fun s => { s with af := 0x0070, de := 0xFF00, pc := 0x0101 }) [] = true := by
  decide
theorem test_VA34 :
    stepGives (put [(0xC000, 0x10)] { code 0x0100 [0x35] with hl := 0xC000 }) 3
      (fun s => { s with af := 0x0060, pc := 0x0101 }) [(0xC000, 0x0F)] = true := by
  decide
theorem test_VA38 :
    stepGives ({ code 0x0100 [0x27] with af := 0x9A00 }) 1
      (fun s => { s with af := 0x0090, pc := 0x0101 }) [] = true := by
  decide
theorem test_VA39 :
    stepGives ({ code 0x0100 [0x27] with af := 0x0070 }) 1
      (fun s => { s with af := 0x9A50, pc := 0x0101 }) [] = true := by
  decide
theorem test_VA41 :
    stepGives ({ code 0x0100 [0x2F] with af := 0x3590 }) 1
      (fun s => { s with af := 0xCAF0, pc := 0x0101 }) [] = true := by
  decide
theorem test_VA42 :
    stepGives ({ code 0x0100 [0x37] with af := 0x00E0 }) 1
      (fun s => { s with af := 0x0090, pc := 0x0101 }) [] = true := by
  decide
theorem test_VA43 :
    stepGives ({ code 0x0100 [0x3F] with af := 0x0070 }) 1
      (fun s => { s with af := 0x0000, pc := 0x0101 }) [] = true := by
  decide
theorem test_VW1 :
    stepGives ({ code 0x0100 [0x03] with af := 0x0050, bc := 0xFFFF }) 2
      (fun s => { s with bc := 0x0000, pc := 0x0101 }) [] = true := by
  decide
theorem test_VW2 :
    stepGives ({ code 0x0100 [0x33] with sp := 0xFFFE }) 2
      (fun s => { s with sp := 0xFFFF, pc := 0x0101 }) [] = true := by
  decide
theorem test_VW3 :
    stepGives ({ code 0x0100 [0x1B] with af := 0x0080 }) 2
      (fun s => { s with de := 0xFFFF, pc := 0x0101 }) [] = true := by
  decide
theorem test_VW4 :
    stepGives ({ code 0x0100 [0x2B] with hl := 0x0001 }) 2
      (fun s => { s with hl := 0x0000, pc := 0x0101 }) [] = true := by
  decide
theorem test_VW5 :
    stepGives ({ code 0x0100 [0x09] with bc := 0x0605, hl := 0x8A23 }) 2
      (fun s => { s with af := 0x0020, hl := 0x9028, pc := 0x0101 }) [] = true := by
  decide
theorem test_VW6 :
    stepGives ({ code 0x0100 [0x29] with hl := 0x8A23 }) 2
      (fun s => { s with af := 0x0030, hl := 0x1446, pc := 0x0101 }) [] = true := by
  decide
theorem test_VW7 :
    stepGives ({ code 0x0100 [0x39] with hl := 0xFFFF, sp := 0x0001 }) 2
      (fun s => { s with af := 0x0030, hl := 0x0000, pc := 0x0101 }) [] = true := by
  decide
theorem test_VW8 :
    stepGives ({ code 0x0100 [0x19] with af := 0x00C0, de := 0x0001, hl := 0x1000 }) 2
      (fun s => { s with af := 0x0080, hl := 0x1001, pc := 0x0101 }) [] = true := by
  decide
theorem test_VJ1 :
    stepGives (code 0x0100 [0xC3, 0x00, 0x02]) 4 (fun s => { s with pc := 0x0200 }) [] = true := by
  decide
theorem test_VJ2 :
    stepGives (code 0x0100 [0xC2, 0x00, 0x02]) 4 (fun s => { s with pc := 0x0200 }) [] = true := by
  decide
theorem test_VJ3 :
    stepGives (code 0x0100 [0xCA, 0x00, 0x02]) 3 (fun s => { s with pc := 0x0103 }) [] = true := by
  decide
theorem test_VJ4 :
    stepGives ({ code 0x0100 [0xDA, 0x34, 0x12] with af := 0x0010 }) 4 (fun s => { s with pc := 0x1234 }) [] = true := by
  decide
theorem test_VJ5 :
    stepGives ({ code 0x0100 [0xE9] with hl := 0xC000 }) 1 (fun s => { s with pc := 0xC000 }) [] = true := by
  decide
theorem test_VJ6 : stepGives (code 0x0100 [0x18, 0x05]) 3 (fun s => { s with pc := 0x0107 }) [] = true := by decide
theorem test_VJ9 : stepGives (code 0x0000 [0x18, 0xFD]) 3 (fun s => { s with pc := 0xFFFF }) [] = true := by decide
theorem test_VJ11 : stepGives (code 0x0100 [0x38, 0x10]) 2 (fun s => { s with pc := 0x0102 }) [] = true := by decide
theorem test_VJ12 : stepGives (code 0x0100 [0x30, 0x10]) 3 (fun s => { s with pc := 0x0112 }) [] = true := by decide
theorem test_VJ13 :
    stepGives ({ code 0x0100 [0x28, 0xF0] with af := 0x0080 }) 3 (fun s => { s with pc := 0x00F2 }) [] = true := by
  decide
theorem test_VJ14 :
    stepGives ({ code 0x0100 [0xCD, 0x34, 0x12] with sp := 0xFFFE }) 6
      (fun s => { s with sp := 0xFFFC, pc := 0x1234 }) [(0xFFFD, 0x01), (0xFFFC, 0x03)] = true := by
  decide
theorem test_VJ15 :
    stepGives ({ code 0x0100 [0xDC, 0x34, 0x12] with sp := 0xFFFE }) 3 (fun s => { s with pc := 0x0103 }) [] = true := by
  decide
theorem test_VJ16 :
    stepGives ({ code 0x0100 [0xCC, 0x00, 0x02] with af := 0x0080 }) 6
      (fun s => { s with sp := 0xFFFE, pc := 0x0200 }) [(0xFFFF, 0x01), (0xFFFE, 0x03)] = true := by
  decide
theorem test_VJ17 :
    stepGives (put [(0xC000, 0x34), (0xC001, 0x12)] { code 0x0100 [0xC9] with sp := 0xC000 }) 4
      (fun s => { s with sp := 0xC002, pc := 0x1234 }) [] = true := by
  decide
theorem test_VJ18 :
    stepGives (put [(0xC000, 0x34), (0xC001, 0x12)] { code 0x0100 [0xC0] with sp := 0xC000 }) 5
      (fun s => { s with sp := 0xC002, pc := 0x1234 }) [] = true := by
  decide
theorem test_VJ19 :
    stepGives (put [(0xC000, 0x34), (0xC001, 0x12)] { code 0x0100 [0xC8] with sp := 0xC000 }) 2
      (fun s => { s with pc := 0x0101 }) [] = true := by
  decide
theorem test_VJ21 :
    stepGives (put [(0xC000, 0x34), (0xC001, 0x12)] { code 0x0100 [0xD9] with sp := 0xC000 }) 4
      (fun s => { s with sp := 0xC002, pc := 0x1234, ime := true }) [] = true := by
  decide
theorem test_VJ22 :
    stepGives ({ code 0x0100 [0xFF] with sp := 0xD000 }) 4
      (fun s => { s with sp := 0xCFFE, pc := 0x0038 }) [(0xCFFF, 0x01), (0xCFFE, 0x01)] = true := by
  decide
theorem test_VJ23 :
    stepGives ({ code 0x0100 [0xC7] with sp := 0xD000 }) 4
      (fun s => { s with sp := 0xCFFE, pc := 0x0000 }) [(0xCFFF, 0x01), (0xCFFE, 0x01)] = true := by
  decide
theorem test_VJ24 :
    stepGives ({ code 0x0100 [0xDF] with sp := 0xD000 }) 4
      (fun s => { s with sp := 0xCFFE, pc := 0x0018 }) [(0xCFFF, 0x01), (0xCFFE, 0x01)] = true := by
  decide
theorem test_VS1 :
    stepGives ({ code 0x0100 [0xC5] with bc := 0x1234, sp := 0xFFFE }) 4
      (fun s => { s with sp := 0xFFFC, pc := 0x0101 }) [(0xFFFD, 0x12), (0xFFFC, 0x34)] = true := by
  decide
theorem test_VS2 :
    stepGives ({ code 0x0100 [0xF5] with af := 0x12B0, sp := 0xFFFE }) 4
      (fun s => { s with sp := 0xFFFC, pc := 0x0101 }) [(0xFFFD, 0x12), (0xFFFC, 0xB0)] = true := by
  decide
theorem test_VS3 :
    stepGives ({ code 0x0100 [0xE5] with hl := 0xABCD, sp := 0x0001 }) 4
      (fun s => { s with sp := 0xFFFF, pc := 0x0101 }) [(0xFFFF, 0xCD)] = true := by
  decide
theorem test_VS4 :
    stepGives (put [(0xC000, 0xFF), (0xC001, 0x12)] { code 0x0100 [0xF1] with sp := 0xC000 }) 3
      (fun s => { s with af := 0x12F0, sp := 0xC002, pc := 0x0101 }) [] = true := by
  decide
theorem test_VS5 :
    stepGives (put [(0xC000, 0x78), (0xC001, 0x56)] { code 0x0100 [0xD1] with sp := 0xC000 }) 3
      (fun s => { s with de := 0x5678, sp := 0xC002, pc := 0x0101 }) [] = true := by
  decide
theorem test_VS6 :
    stepGives (put [(0xFFFE, 0x11), (0xFFFF, 0x22)] { code 0x0100 [0xC1] with sp := 0xFFFE }) 3
      (fun s => { s with bc := 0x2211, sp := 0x0000, pc := 0x0101 }) [] = true := by
  decide
theorem test_VS7 :
    stepGives ({ code 0x0100 [0x08, 0x00, 0xC1] with sp := 0xFFF8 }) 5
      (fun s => { s with pc := 0x0103 }) [(0xC100, 0xF8), (0xC101, 0xFF)] = true := by
  decide
theorem test_VS9 :
    stepGives ({ code 0x0100 [0xF9] with hl := 0xDFFF }) 2
      (fun s => { s with sp := 0xDFFF, pc := 0x0101 }) [] = true := by
  decide
theorem test_VS10 :
    stepGives ({ code 0x0100 [0xE8, 0x02] with af := 0x00F0, sp := 0xFFF8 }) 4
      (fun s => { s with af := 0x0000, sp := 0xFFFA, pc := 0x0102 }) [] = true := by
  decide
theorem test_VS14 :
    stepGives ({ code 0x0100 [0xF8, 0x80] with sp := 0x1000 }) 3
      (fun s => { s with hl := 0x0F80, pc := 0x0102 }) [] = true := by
  decide
theorem test_VB1 :
    stepGives ({ code 0x0100 [0x07] with af := 0x8500 }) 1
      (fun s => { s with af := 0x0B10, pc := 0x0101 }) [] = true := by
  decide
theorem test_VB3 :
    stepGives ({ code 0x0100 [0x0F] with af := 0x0100 }) 1
      (fun s => { s with af := 0x8010, pc := 0x0101 }) [] = true := by
  decide
theorem test_VB4 :
    stepGives ({ code 0x0100 [0x17] with af := 0x8000 }) 1
      (fun s => { s with af := 0x0010, pc := 0x0101 }) [] = true := by
  decide
theorem test_VB5 :
    stepGives ({ code 0x0100 [0x1F] with af := 0x0110 }) 1
      (fun s => { s with af := 0x8010, pc := 0x0101 }) [] = true := by
  decide
theorem test_VB6 :
    stepGives ({ code 0x0100 [0xCB, 0x00] with bc := 0x8000 }) 2
      (fun s => { s with af := 0x0010, bc := 0x0100, pc := 0x0102 }) [] = true := by
  decide
theorem test_VB7 :
    stepGives (put [(0xC000, 0x00)] { code 0x0100 [0xCB, 0x06] with hl := 0xC000 }) 4
      (fun s => { s with af := 0x0080, pc := 0x0102 }) [(0xC000, 0x00)] = true := by
  decide
theorem test_VB8 :
    stepGives ({ code 0x0100 [0xCB, 0x09] with bc := 0x0001 }) 2
      (fun s => { s with af := 0x0010, bc := 0x0080, pc := 0x0102 }) [] = true := by
  decide
theorem test_VB9 :
    stepGives (put [(0xC000, 0x02)] { code 0x0100 [0xCB, 0x0E] with hl := 0xC000 }) 4
      (fun s => { s with pc := 0x0102 }) [(0xC000, 0x01)] = true := by
  decide
theorem test_VB10 :
    stepGives ({ code 0x0100 [0xCB, 0x12] with de := 0x8000 }) 2
      (fun s => { s with af := 0x0090, de := 0x0000, pc := 0x0102 }) [] = true := by
  decide
theorem test_VB11 :
    stepGives (put [(0xC000, 0x11)] { code 0x0100 [0xCB, 0x16] with af := 0x0010, hl := 0xC000 }) 4
      (fun s => { s with af := 0x0000, pc := 0x0102 }) [(0xC000, 0x23)] = true := by
  decide
theorem test_VB12 :
    stepGives ({ code 0x0100 [0xCB, 0x1B] with de := 0x0001 }) 2
      (fun s => { s with af := 0x0090, de := 0x0000, pc := 0x0102 }) [] = true := by
  decide
theorem test_VB13 :
    stepGives (put [(0xC000, 0x8A)] { code 0x0100 [0xCB, 0x1E] with af := 0x0010, hl := 0xC000 }) 4
      (fun s => { s with af := 0x0000, pc := 0x0102 }) [(0xC000, 0xC5)] = true := by
  decide
theorem test_VB14 :
    stepGives ({ code 0x0100 [0xCB, 0x24] with hl := 0xFF00 }) 2
      (fun s => { s with af := 0x0010, hl := 0xFE00, pc := 0x0102 }) [] = true := by
  decide
theorem test_VB15 :
    stepGives (put [(0xC000, 0x80)] { code 0x0100 [0xCB, 0x26] with hl := 0xC000 }) 4
      (fun s => { s with af := 0x0090, pc := 0x0102 }) [(0xC000, 0x00)] = true := by
  decide
theorem test_VB16 :
    stepGives ({ code 0x0100 [0xCB, 0x2D] with hl := 0x0081 }) 2
      (fun s => { s with af := 0x0010, hl := 0x00C0, pc := 0x0102 }) [] = true := by
  decide
theorem test_VB17 :
    stepGives ({ code 0x0100 [0xCB, 0x2F] with af := 0x0100 }) 2
      (fun s => { s with af := 0x0090, pc := 0x0102 }) [] = true := by
  decide
theorem test_VB18 :
    stepGives (put [(0xC000, 0x8A)] { code 0x0100 [0xCB, 0x2E] with hl := 0xC000 }) 4
      (fun s => { s with pc := 0x0102 }) [(0xC000, 0xC5)] = true := by
  decide
theorem test_VB19 :
    stepGives ({ code 0x0100 [0xCB, 0x37] with af := 0xF010 }) 2
      (fun s => { s with af := 0x0F00, pc := 0x0102 }) [] = true := by
  decide
theorem test_VB20 :
    stepGives (code 0x0100 [0xCB, 0x30]) 2 (fun s => { s with af := 0x0080, pc := 0x0102 }) [] = true := by
  decide
theorem test_VB21 :
    stepGives (put [(0xC000, 0x12)] { code 0x0100 [0xCB, 0x36] with hl := 0xC000 }) 4
      (fun s => { s with pc := 0x0102 }) [(0xC000, 0x21)] = true := by
  decide
theorem test_VB22 :
    stepGives ({ code 0x0100 [0xCB, 0x3F] with af := 0x0100 }) 2
      (fun s => { s with af := 0x0090, pc := 0x0102 }) [] = true := by
  decide
theorem test_VB23 :
    stepGives (put [(0xC000, 0x80)] { code 0x0100 [0xCB, 0x3E] with hl := 0xC000 }) 4
      (fun s => { s with pc := 0x0102 }) [(0xC000, 0x40)] = true := by
  decide
theorem test_VB24 :
    stepGives ({ code 0x0100 [0xCB, 0x7C] with af := 0x0010, hl := 0x8000 }) 2
      (fun s => { s with af := 0x0030, pc := 0x0102 }) [] = true := by
  decide
theorem test_VB25 :
    stepGives ({ code 0x0100 [0xCB, 0x47] with af := 0xFE00 }) 2
      (fun s => { s with af := 0xFEA0, pc := 0x0102 }) [] = true := by
  decide
theorem test_VB26 :
    stepGives (put [(0xC000, 0x08)] { code 0x0100 [0xCB, 0x5E] with af := 0x0040, hl := 0xC000 }) 3
      (fun s => { s with af := 0x0020, pc := 0x0102 }) [] = true := by
  decide
theorem test_VB27 :
    stepGives ({ code 0x0100 [0xCB, 0xBF] with af := 0xFFF0 }) 2
      (fun s => { s with af := 0x7FF0, pc := 0x0102 }) [] = true := by
  decide
theorem test_VB28 :
    stepGives (put [(0xC000, 0xFF)] { code 0x0100 [0xCB, 0x86] with hl := 0xC000 }) 4
      (fun s => { s with pc := 0x0102 }) [(0xC000, 0xFE)] = true := by
  decide
theorem test_VB29 :
    stepGives (code 0x0100 [0xCB, 0xD8]) 2 (fun s => { s with bc := 0x0800, pc := 0x0102 }) [] = true := by
  decide
theorem test_VB30 :
    stepGives (put [(0xC000, 0x01)] { code 0x0100 [0xCB, 0xFE] with hl := 0xC000 }) 4
      (fun s => { s with pc := 0x0102 }) [(0xC000, 0x81)] = true := by
  decide
theorem test_VB31 :
    stepGives ({ code 0x0100 [0xCB, 0xFE] with hl := 0x0200 }) 4 (fun s => { s with pc := 0x0102 }) [] = true := by
  decide
theorem test_VC1 : stepGives (code 0x0100 [0x00]) 1 (fun s => { s with pc := 0x0101 }) [] = true := by decide
theorem test_VC3 :
    stepGives (code 0x0100 [0x10, 0x5A]) 1 (fun s => { s with pc := 0x0102, halted := true }) [] = true := by
  decide
theorem test_VC4 :
    stepGives ({ code 0x0100 [0xF3] with ime := true }) 1 (fun s => { s with pc := 0x0101, ime := false }) [] = true := by
  decide
theorem test_VC5 :
    stepGives (code 0x0100 [0xFB]) 1 (fun s => { s with pc := 0x0101, eiDelay := true }) [] = true := by
  decide
theorem test_VC9 : failsWith (code 0x0100 [0xD3]) (.illegalOpcode 0xD3) = true := by decide
theorem test_VC10 : failsWith ({ code 0x0100 [0xFD] with eiDelay := true }) (.illegalOpcode 0xFD) = true := by decide
theorem test_VI1 :
    stepGives (put [(0xFFFF, 0x1F), (0xFF0F, 0x05)] { code 0x0150 [0x00] with sp := 0xFFFE, ime := true }) 5
      (fun s => { s with sp := 0xFFFC, pc := 0x0040, ime := false }) [(0xFFFD, 0x01), (0xFFFC, 0x50), (0xFF0F, 0x04)] = true := by
  decide
theorem test_VI2 :
    stepGives (put [(0xFFFF, 0x10), (0xFF0F, 0x18)] { code 0x0100 [0x00] with sp := 0xFFFE, ime := true }) 5
      (fun s => { s with sp := 0xFFFC, pc := 0x0060, ime := false }) [(0xFFFD, 0x01), (0xFFFC, 0x00), (0xFF0F, 0x08)] = true := by
  decide
theorem test_VI3 :
    stepGives (put [(0xFFFF, 0xFF), (0xFF0F, 0xE0)] { code 0x0100 [0x00] with sp := 0xFFFE, ime := true }) 1
      (fun s => { s with pc := 0x0101 }) [] = true := by
  decide
theorem test_VI4 :
    stepGives (put [(0xFFFF, 0x01), (0xFF0F, 0x01)] { code 0x0100 [0x3C] with sp := 0xFFFE }) 1
      (fun s => { s with af := 0x0100, pc := 0x0101 }) [] = true := by
  decide
theorem test_VI5 :
    stepGives (put [(0xFFFF, 0x04), (0xFF0F, 0x04)] { code 0x0100 [0x3C] with sp := 0xFFFE, halted := true }) 1
      (fun s => { s with af := 0x0100, pc := 0x0101, halted := false }) [] = true := by
  decide
theorem test_VI6 :
    stepGives (put [(0xFFFF, 0x02), (0xFF0F, 0x02)] { code 0x0201 [0x00] with sp := 0xFFFE, ime := true, halted := true }) 5
      (fun s => { s with sp := 0xFFFC, pc := 0x0048, ime := false, halted := false }) [(0xFFFD, 0x02), (0xFFFC, 0x01), (0xFF0F, 0x00)] = true := by
  decide
theorem test_VI10 :
    stepGives (put [(0xFFFF, 0x01), (0xFF0F, 0x01)] { code 0x1250 [0x00] with ime := true }) 5
      (fun s => { s with sp := 0xFFFE, pc := 0x0040, ime := false }) [(0xFFFF, 0x12), (0xFFFE, 0x50), (0xFF0F, 0x00)] = true := by
  decide
theorem test_VI11 :
    stepGives (put [(0xFFFF, 0x01), (0xFF0F, 0x01)] { code 0x0100 [0x00] with sp := 0xFFFE, ime := true, eiDelay := true }) 5
      (fun s => { s with sp := 0xFFFC, pc := 0x0040, ime := false, eiDelay := false }) [(0xFFFD, 0x01), (0xFFFC, 0x00), (0xFF0F, 0x00)] = true := by
  decide
theorem test_VE1 :
    failsWith ({ code 0x0100 [0x22] with af := 0x1200, hl := 0xFF01, io := rejectAll 0xFF01 }) (.memoryAccess 0xFF01 .write) = true := by
  decide
theorem test_VE2 :
    failsWith ({ code 0x0100 [0xCD, 0x00, 0x02] with sp := 0xFF80, io := rejectAll 0xFF7E }) (.memoryAccess 0xFF7E .write) = true := by
  decide
theorem test_VE3 :
    failsWith ({ code 0xFF01 [] with io := rejectAll 0xFF01 }) (.memoryAccess 0xFF01 .read) = true := by
  decide
theorem test_VE4 :
    failsWith ({ code 0x0100 [0x00] with ime := true, io := rejectAll 0xFF0F }) (.memoryAccess 0xFF0F .peek) = true := by
  decide
theorem test_VE5 :
    stepGives ({ code 0x0100 [0x00] with io := rejectAll 0xFF0F }) 1 (fun s => { s with pc := 0x0101 }) [] = true := by
  decide

/-- A table word placed at PC is what the next step runs (log 13). -/
theorem test_withFetchWord :
    (match step (State.reset.withFetchWord 8 0x3E) with | .next t => some (t.pc, t.cycles) | _ => none) =
      some (0x0002, 2) := by decide

/-! ### The map: the first and last address of every entry (VM1 to VM23) -/

theorem test_dispatch_bounds :
    [0x0000, 0x3FFF, 0x4000, 0x7FFF, 0x8000, 0x9FFF, 0xA000, 0xBFFF, 0xC000, 0xCFFF, 0xD000, 0xDFFF, 0xE000, 0xFDFF,
      0xFE00, 0xFE9F, 0xFEA0, 0xFEFF, 0xFF00, 0xFF7F, 0xFF80, 0xFFFE, 0xFFFF].map dispatch =
    [(.romBank0, 0x0000), (.romBank0, 0x3FFF), (.romSwitchable, 0x0000), (.romSwitchable, 0x3FFF), (.videoRam, 0x0000),
      (.videoRam, 0x1FFF), (.externalRam, 0x0000), (.externalRam, 0x1FFF), (.workRam0, 0x0000), (.workRam0, 0x0FFF),
      (.workRamX, 0x0000), (.workRamX, 0x0FFF), (.echoRam, 0x0000), (.echoRam, 0x1DFF), (.oam, 0x0000), (.oam, 0x009F),
      (.unusable, 0x0000), (.unusable, 0x005F), (.ioRegisters, 0x0000), (.ioRegisters, 0x007F), (.highRam, 0x0000),
      (.highRam, 0x007E), (.interruptEnable, 0x0000)] := by decide

/-- The echo round trip at its bounds (95_test_vectors.md S3). -/
theorem test_echo_bounds :
    [(0xE000, 0xC000), (0xEFFF, 0xCFFF), (0xF000, 0xD000), (0xFDFF, 0xDDFF)].map (fun p : Word × Word =>
      match busWrite p.1 0x5A State.reset with
      | .ok t => (readByte p.2 t).toOption
      | .error _ => none) = [some 0x5A, some 0x5A, some 0x5A, some 0x5A] := by decide

/-! ### Registers (VR1 to VR14) -/

theorem test_VR4_VR7_VR8 :
    (State.reset.setAF 0x12FF).AF = 0x12F0 ∧ ({ State.reset with bc := 0x1234 }.setC 0xAB).bc = 0x12AB ∧
      ({ State.reset with af := 0x1200 }.setF 0xFF).AF = 0x12F0 := by decide

theorem test_VR9_VR12 :
    r16mem .hlInc { State.reset with hl := 0xFFFF } = (0xFFFF, { State.reset with hl := 0x0000 }) ∧
      r16mem .hlDec { State.reset with hl := 0x0000 } = (0x0000, { State.reset with hl := 0xFFFF }) := by decide

/-! ### Witnesses: for each statement with hypotheses, states and operands that meet them together, clause by clause -/

/-- A small running machine: HL and SP in work RAM, two bytes there. -/
def inRam : State := put [(0xC000, 0x3C), (0xC001, 0x12)] { State.reset with pc := 0x0100, hl := 0xC000, sp := 0xC000 }

/-- The same with SP where a push fits below it and a return address stands above it. -/
def withStack : State := { inRam with sp := 0xC000 }

/-- A machine whose I/O block rejects the listed accesses, HL at 0xFF01 and SP where a push and a pop reach it. -/
def rejecting (accesses : List (Word × AccessKind)) : State :=
  { State.reset with pc := 0x0100, hl := 0xFF01, sp := 0xFF02, io := .rejecting accesses }

/-- A machine that takes the timer interrupt at its next step. -/
def interrupted : State :=
  put [(0xFFFF, 0x04), (0xFF0F, 0x04)] { State.reset with pc := 0x0100, sp := 0xFFFE, ime := true }

/-- A machine that neither idles nor takes an interrupt. -/
theorem running {s : State} (hi : s.ime = false) (hh : s.halted = false) : runsInstruction s :=
  ⟨0, by unfold pendingAtStart; rw [hi, hh]; rfl, fun h => absurd h (by rw [hh]; decide),
    fun h => absurd h (by rw [hi]; decide)⟩

theorem witness_ResetMeetsInvariant : ∃ mem : Memory, mem.wf = true ∧
    (State.powerOn mem .flat .plain .unrestricted .fixed 0).storageOk = true := ⟨[(0xC000, 0x5A)], rfl, rfl⟩

theorem witness_StepKeepsInvariant : ∃ s t : State, StateInv s ∧ step s = .next t :=
  ⟨code 0x0100 [0xEA, 0x34, 0xC2], _, ⟨rfl, rfl, rfl⟩, rfl⟩

theorem witness_StepRunsDecodedInstruction : ∃ (s s1 : State) (bytes : List Byte) (i : Instr),
    runsInstruction s ∧ decode bytes = .ok (i, []) ∧ fetchBytes bytes.length (s.setHalted false) = .ok (bytes, s1) :=
  ⟨code 0x0100 [0xFE, 0x40], _, [0xFE, 0x40], _, running rfl rfl, rfl, rfl⟩

theorem witness_DecodeOfEncode : WellFormed (.ld_SP_n16 0xFFFE) := rfl

theorem witness_EncodeOfDecode : ∃ i rest, decode [0xCB, 0x37, 0x00] = .ok (i, rest) := ⟨_, _, rfl⟩

theorem witness_DecodeRejectsOnlyShortInput :
    ([0x34] : List Byte).length + 1 < instrLength 0x01 ∧ instrLength 0x01 ≤ ([0x34, 0x12] : List Byte).length + 1 := by
  decide

theorem witness_IllegalOpcodesFail : ∃ (s s1 : State) (op : Byte), op ∈ illegalOpcodes ∧ runsInstruction s ∧
    busRead s.pc (s.setHalted false) = .ok (op, s1) := ⟨code 0x0100 [0xD3], _, 0xD3, by decide, running rfl rfl, rfl⟩

theorem witness_FetchByteAndOrder :
    (∃ s s1 v, s.pc = 0xFFFF ∧ busRead s.pc s = .ok (v, s1)) ∧
    (∃ s f, busRead s.pc s = .error f) ∧
    (∃ s f, pendingAtStart s = .error f) ∧
    (∃ s f, runsInstruction s ∧ fetch8 (s.setHalted false) = .error f) ∧
    ∃ s s1 op f, runsInstruction s ∧ fetch8 (s.setHalted false) = .ok (op, s1) ∧
      fetchBytes (instrLength op - 1) s1 = .error f :=
  ⟨⟨{ State.reset with pc := 0xFFFF }, _, _, rfl, rfl⟩,
    ⟨{ rejecting [(0xFF01, .read)] with pc := 0xFF01 }, _, rfl⟩,
    ⟨{ rejecting [(0xFF0F, .peek)] with ime := true }, _, rfl⟩,
    ⟨{ rejecting [(0xFF01, .read)] with pc := 0xFF01 }, _, running rfl rfl, rfl⟩,
    ⟨{ code 0xFF00 [0x3E] with io := .rejecting [(0xFF01, .read)] }, _, _, _, running rfl rfl, rfl, rfl⟩⟩

theorem witness_FailedStepCommitsNothing : (∃ s f, step s = .fault f) ∧ ∃ s t, step s = .next t :=
  ⟨⟨code 0x0100 [0xD3], _, rfl⟩, ⟨code 0x0100 [0x00], _, rfl⟩⟩

theorem witness_StepOutcomes :
    (∃ s f, busRead 0xFF01 s = .error f) ∧ (∃ s f, busWrite 0xFF01 0x00 s = .error f) ∧
      ∃ s f, busPeek 0xFF01 s = .error f :=
  ⟨⟨rejecting [(0xFF01, .read)], _, rfl⟩, ⟨rejecting [(0xFF01, .write)], _, rfl⟩, ⟨rejecting [(0xFF01, .peek)], _, rfl⟩⟩

theorem witness_ReferenceDevicesNeverReject :
    (∃ s t, s.referenceDevices ∧ step s = .next t) ∧ ∃ s f, s.referenceDevices ∧ step s = .fault f :=
  ⟨⟨code 0x0100 [0x34], _, ⟨rfl, rfl, rfl, rfl⟩, rfl⟩, ⟨code 0x0100 [0xFD], _, ⟨rfl, rfl, rfl, rfl⟩, rfl⟩⟩

/-- The addresses lie in the range, both its bounds among them. -/
def boundsOf (lo hi : Nat) (addrs : List Word) : Bool :=
  addrs.all (fun a => decide (lo ≤ a.toNat) && decide (a.toNat < hi)) && addrs.any (fun a => a.toNat == lo) &&
    addrs.any (fun a => a.toNat + 1 == hi)

theorem witness_MapPartition :
    boundsOf 0x0000 0x4000 [0x0000, 0x3FFF] ∧ boundsOf 0x4000 0x8000 [0x4000, 0x7FFF] ∧
      boundsOf 0x8000 0xA000 [0x8000, 0x9FFF] ∧ boundsOf 0xA000 0xC000 [0xA000, 0xBFFF] ∧
      boundsOf 0xC000 0xD000 [0xC000, 0xCFFF] ∧ boundsOf 0xD000 0xE000 [0xD000, 0xDFFF] ∧
      boundsOf 0xE000 0xFE00 [0xE000, 0xFDFF] ∧ boundsOf 0xFE00 0xFEA0 [0xFE00, 0xFE9F] ∧
      boundsOf 0xFEA0 0xFF00 [0xFEA0, 0xFEFF] ∧ boundsOf 0xFF00 0xFF80 [0xFF00, 0xFF7F] ∧
      boundsOf 0xFF80 0xFFFF [0xFF80, 0xFFFE] ∧ boundsOf 0xFFFF 0x10000 [0xFFFF] := by decide

/-- A write to the address is accepted. -/
def accepted (a : Word) (s : State) : Bool :=
  match busWrite a 0x5A s with
  | .ok _ => true
  | .error _ => false

/-- The bounds of the echo window and, for each k at a bound of the two banks, an accepted write through each window. -/
theorem witness_EchoIsWorkRam :
    boundsOf 0xE000 0xFE00 [0xE000, 0xFDFF] ∧ inRam.mem.wf = true ∧
    [0x0000, 0x0FFF, 0x1000, 0x1DFF].all (fun k => decide (k < 0x1E00) &&
      accepted (BitVec.ofNat 16 (0xE000 + k)) inRam && accepted (BitVec.ofNat 16 (0xC000 + k)) inRam) = true := by decide

theorem witness_UnusableWindow : boundsOf 0xFEA0 0xFF00 [0xFEA0, 0xFEFF] := by decide

theorem witness_RamStoresBytes :
    inRam.video = .unrestricted ∧ inRam.mem.wf = true ∧ echoFold 0xC001 ≠ echoFold 0xE000 ∧
    [0x8000, 0x9FFF, 0xC000, 0xCFFF, 0xD000, 0xDFFF, 0xFE00, 0xFE9F, 0xFF80, 0xFFFE, 0xFFFF].map (fun a => (dispatch a).1) =
      [.videoRam, .videoRam, .workRam0, .workRam0, .workRamX, .workRamX, .oam, .oam, .highRam, .highRam,
        .interruptEnable] := by decide

theorem witness_ReferenceCartAndIo :
    (inRam.cart = .flat ∧ boundsOf 0x0000 0x8000 [0x0000, 0x7FFF]) ∧ inRam.mem.wf = true ∧
    (inRam.cart = .flat ∧ boundsOf 0xA000 0xC000 [0xA000, 0xBFFF]) ∧
    (inRam.io = .plain ∧ boundsOf 0xFF00 0xFF80 [0xFF00, 0xFF7F]) := by decide

theorem witness_PeekAgreesWithRead :
    (∃ v w t, busPeek 0xC000 inRam = .ok v ∧ busRead 0xC000 inRam = .ok (w, t)) ∧
      inRam.closed 0xC000 ∧ ∀ l, inRam.io ≠ .rejecting l :=
  ⟨⟨_, _, _, rfl, rfl⟩, fun h => Access.noConfusion h, fun _ h => IoDevice.noConfusion h⟩

theorem witness_BusAccessFrame :
    (∃ v t, busRead 0xC000 inRam = .ok (v, t)) ∧ (∃ t, busWrite 0xC000 0x5A inRam = .ok t) ∧ inRam.closed 0xC000 ∧
      (0xC001 : Nat) % 0x10000 ≠ echoFold 0xC000 :=
  ⟨⟨_, _, rfl⟩, ⟨_, rfl⟩, fun h => Access.noConfusion h, by decide⟩

theorem witness_TakeAndModify : Pair.hl ≠ .af ∧ ({ State.reset with hl := 0xFFFF }).pair .hl = 0xFFFF ∧
    State.reset.pair .hl = 0x0000 := by decide

theorem witness_DaaGivesDecimal : (99 : Nat) < 100 ∧ ({ State.reset with af := 0x9900 }).A = bcd 99 := by decide

theorem witness_LoadByteForms :
    (¬(R8.d = .atHL ∧ R8.atHL = .atHL)) ∧ (∃ v s1 s2, r8get .atHL inRam = .ok (v, s1) ∧ r8set .d v s1 = .ok s2) ∧
    (∃ s f, r8get .atHL s = .error f) ∧
    (¬(R8.atHL = .atHL ∧ R8.c = .atHL)) ∧ ∃ s v s1 f, r8get .c s = .ok (v, s1) ∧ r8set .atHL v s1 = .error f :=
  ⟨by decide, ⟨_, _, _, rfl, rfl⟩, ⟨rejecting [(0xFF01, .read)], _, rfl⟩, by decide,
    ⟨rejecting [(0xFF01, .write)], _, _, _, rfl, rfl⟩⟩

theorem witness_LoadImmediateForms : (∃ s1, r8set .atHL 0xAB inRam = .ok s1) ∧ ∃ s f, r8set .atHL 0xAB s = .error f :=
  ⟨⟨_, rfl⟩, ⟨rejecting [(0xFF01, .write)], _, rfl⟩⟩

theorem witness_IndirectLoads :
    (∃ t, busWrite (r16mem .hlInc inRam).1 inRam.A inRam = .ok t) ∧
    (∃ s f, busWrite (r16mem .hlInc s).1 s.A s = .error f) ∧
    (∃ v t, busRead (r16mem .hlDec inRam).1 inRam = .ok (v, t)) ∧ ∃ s f, busRead (r16mem .hlDec s).1 s = .error f :=
  ⟨⟨_, rfl⟩, ⟨rejecting [(0xFF01, .write)], _, rfl⟩, ⟨_, _, rfl⟩, ⟨rejecting [(0xFF01, .read)], _, rfl⟩⟩

/-- For the address 0xFF01 of each of the six forms: a state whose access is accepted and one whose access fails. -/
theorem witness_DirectAndHighLoads :
    (∃ s t, busWrite 0xFF01 s.A s = .ok t) ∧ (∃ s f, busWrite 0xFF01 s.A s = .error f) ∧
    (∃ s v t, busRead 0xFF01 s = .ok (v, t)) ∧ (∃ s f, busRead 0xFF01 s = .error f) ∧
    BitVec.ofNat 16 (0xFF00 + (0x01 : Byte).toNat) = (0xFF01 : Word) :=
  ⟨⟨inRam, _, rfl⟩, ⟨rejecting [(0xFF01, .write)], _, rfl⟩, ⟨inRam, _, _, rfl⟩, ⟨rejecting [(0xFF01, .read)], _, rfl⟩,
    by decide⟩

theorem witness_AluArithmeticForms :
    (∃ v s1, r8get .atHL inRam = .ok (v, s1)) ∧ ∃ s f, r8get .atHL s = .error f :=
  ⟨⟨_, _, rfl⟩, ⟨rejecting [(0xFF01, .read)], _, rfl⟩⟩

theorem witness_AluLogicForms :
    (∃ v s1, r8get .e inRam = .ok (v, s1)) ∧ ∃ s f, r8get .atHL s = .error f :=
  ⟨⟨_, _, rfl⟩, ⟨rejecting [(0xFF01, .read)], _, rfl⟩⟩

theorem witness_IncDecByteForms :
    (∃ v s1 s2, r8get .atHL inRam = .ok (v, s1) ∧ r8set .atHL (v + 1) s1 = .ok s2) ∧
    (∃ v s1 s2, r8get .atHL inRam = .ok (v, s1) ∧ r8set .atHL (v - 1) s1 = .ok s2) ∧
    (∃ s f, r8get .atHL s = .error f) ∧
    (∃ s v s1 f, r8get .atHL s = .ok (v, s1) ∧ r8set .atHL (v + 1) s1 = .error f) ∧
    ∃ s v s1 f, r8get .atHL s = .ok (v, s1) ∧ r8set .atHL (v - 1) s1 = .error f :=
  ⟨⟨_, _, _, rfl, rfl⟩, ⟨_, _, _, rfl, rfl⟩, ⟨rejecting [(0xFF01, .read)], _, rfl⟩,
    ⟨rejecting [(0xFF01, .write)], _, _, _, rfl, rfl⟩, ⟨rejecting [(0xFF01, .write)], _, _, _, rfl, rfl⟩⟩

theorem witness_DaaForm : inRam.fN = false ∧ ({ inRam with af := 0x4540 }).fN = true := by decide

theorem witness_CallForms :
    (∃ s2, pushWrites withStack.pc withStack = .ok s2) ∧ withStack.holds .nz = true ∧ withStack.holds .z = false ∧
    ∃ s f, pushWrites s.pc s = .error f ∧ s.holds .nc = true :=
  ⟨⟨_, rfl⟩, by decide, by decide, ⟨rejecting [(0xFF00, .write)], _, rfl, by decide⟩⟩

theorem witness_ReturnForms :
    (∃ w s2, popReads withStack = .ok (w, s2)) ∧ withStack.holds .nz = true ∧ withStack.holds .c = false ∧
    ∃ s f, popReads s = .error f ∧ s.holds .nz = true :=
  ⟨⟨_, _, rfl⟩, by decide, by decide, ⟨rejecting [(0xFF03, .read)], _, rfl, by decide⟩⟩

theorem witness_PushPopForms :
    (∃ s2, pushWrites (r16stkGet .af withStack) withStack = .ok s2) ∧
    (∃ s f, pushWrites (r16stkGet .af s) s = .error f) ∧ (∃ w s2, popReads withStack = .ok (w, s2)) ∧
    ∃ s f, popReads s = .error f :=
  ⟨⟨_, rfl⟩, ⟨rejecting [(0xFF01, .write)], _, rfl⟩, ⟨_, _, rfl⟩, ⟨rejecting [(0xFF02, .read)], _, rfl⟩⟩

theorem witness_StackPointerForms :
    (∃ s1 s2, busWrite 0xC100 (loByte inRam.sp) inRam = .ok s1 ∧
      busWrite (0xC100 + 1) (hiByte inRam.sp) s1 = .ok s2) ∧
    (∃ s f, busWrite 0xFF01 (loByte s.sp) s = .error f) ∧
    ∃ s s1 f, busWrite 0xFF00 (loByte s.sp) s = .ok s1 ∧ busWrite (0xFF00 + 1) (hiByte s.sp) s1 = .error f :=
  ⟨⟨_, _, rfl, rfl⟩, ⟨rejecting [(0xFF01, .write)], _, rfl⟩, ⟨rejecting [(0xFF01, .write)], _, _, rfl, rfl⟩⟩

/-- SRA and RL of 0x81 without a carry, for `rotateIs`. -/
theorem witness_rotateIs : rotateIs .sra 0x81 false 0xC0 true ∧ rotateIs .rl 0x81 false 0x02 true ∧
    rotateIs .rlc 0x81 false 0x03 true ∧ rotateIs .rrc 0x81 false 0xC0 true ∧ rotateIs .rr 0x81 true 0xC0 true ∧
    rotateIs .sla 0x81 false 0x02 true ∧ rotateIs .swap 0x81 true 0x18 false ∧ rotateIs .srl 0x81 false 0x40 true := by
  unfold rotateIs; decide

theorem witness_RotateRegisterForms : ∃ (s s2 : State) (v res : Byte) (c : Bool), R8.d ≠ .atHL ∧
    r8get .d s = .ok (v, s) ∧ rotateIs .sra v s.fC res c ∧ r8set .d res s = .ok s2 :=
  ⟨{ State.reset with de := 0x8100 }, _, 0x81, 0xC0, true, by decide, rfl, ⟨by decide, by decide⟩, rfl⟩

theorem witness_RotateMemoryForms :
    (∃ (s s1 s2 : State) (v res : Byte) (c : Bool), busRead s.hl s = .ok (v, s1) ∧ rotateIs .swap v s.fC res c ∧
      busWrite s.hl res s1 = .ok s2) ∧
    (∃ s f, busRead s.hl s = .error f) ∧
    ∃ (s s1 : State) (v res : Byte) (c : Bool) (f : Fault), busRead s.hl s = .ok (v, s1) ∧ rotateIs .swap v s.fC res c ∧
      busWrite s.hl res s1 = .error f :=
  ⟨⟨inRam, _, _, 0x3C, 0xC3, false, rfl, ⟨by decide, rfl⟩, rfl⟩, ⟨rejecting [(0xFF01, .read)], _, rfl⟩,
    ⟨rejecting [(0xFF01, .write)], _, 0x00, 0x00, false, _, rfl, ⟨by decide, rfl⟩, rfl⟩⟩

theorem witness_BitTestForms :
    (∃ v s1, r8get .atHL inRam = .ok (v, s1)) ∧ ∃ s f, r8get .atHL s = .error f :=
  ⟨⟨_, _, rfl⟩, ⟨rejecting [(0xFF01, .read)], _, rfl⟩⟩

theorem witness_BitWriteForms :
    (∃ v s1 s2, r8get .atHL inRam = .ok (v, s1) ∧ r8set .atHL 0x34 s1 = .ok s2 ∧
      ∀ i, i < 8 → (0x34 : Byte).getLsbD i = if i = ix3Val .i3 then false else v.getLsbD i) ∧
    (∃ v s1 s2, r8get .atHL inRam = .ok (v, s1) ∧ r8set .atHL 0xBC s1 = .ok s2 ∧
      ∀ i, i < 8 → (0xBC : Byte).getLsbD i = if i = ix3Val .i7 then true else v.getLsbD i) ∧
    (∃ s f, r8get .atHL s = .error f) ∧
    (∃ s v s1 f, r8get .atHL s = .ok (v, s1) ∧ r8set .atHL 0x00 s1 = .error f ∧
      ∀ i, i < 8 → (0x00 : Byte).getLsbD i = if i = ix3Val .i3 then false else v.getLsbD i) ∧
    ∃ s v s1 f, r8get .atHL s = .ok (v, s1) ∧ r8set .atHL 0x80 s1 = .error f ∧
      ∀ i, i < 8 → (0x80 : Byte).getLsbD i = if i = ix3Val .i7 then true else v.getLsbD i :=
  ⟨⟨0x3C, _, _, rfl, rfl, by decide⟩, ⟨0x3C, _, _, rfl, rfl, by decide⟩, ⟨rejecting [(0xFF01, .read)], _, rfl⟩,
    ⟨rejecting [(0xFF01, .write)], 0x00, _, _, rfl, rfl, by decide⟩,
    ⟨rejecting [(0xFF01, .write)], 0x00, _, _, rfl, rfl, by decide⟩⟩

theorem witness_PrefixRow :
    (0x37 : Byte).toNat % 8 ≠ 6 ∧ (0x36 : Byte).toNat % 8 = 6 ∧
    ∃ v s1, busRead inRam.hl inRam = .ok (v, s1) ∧ ∀ w, ∃ s2, busWrite inRam.hl w s1 = .ok s2 :=
  ⟨by decide, by decide, _, _, rfl, fun _ => ⟨_, rfl⟩⟩

/-- An idle step and an interrupt entry. -/
theorem witness_EnableDelay_others :
    (∃ s t, s.halted = true ∧ irqPending s = .ok 0 ∧ step s = .next t) ∧
    ∃ s t p, s.ime = true ∧ irqPending s = .ok p ∧ p ≠ 0 ∧ step s = .next t :=
  ⟨⟨{ State.reset with halted := true }, _, rfl, rfl, rfl⟩, ⟨interrupted, _, 0x04, rfl, rfl, by decide, rfl⟩⟩

/-- With a pending enable and without one; the instruction DI, RETI, EI and another. -/
theorem witness_EnableDelay :
    (∃ s s1 t, runsInstruction s ∧ fetchInstr (s.setHalted false) = .ok (.di, s1) ∧ step s = .next t ∧ s.eiDelay = true) ∧
    (∃ s s1 t, runsInstruction s ∧ fetchInstr (s.setHalted false) = .ok (.nop, s1) ∧ step s = .next t ∧
      s.eiDelay = true) ∧
    (∃ s s1 t, runsInstruction s ∧ fetchInstr (s.setHalted false) = .ok (.di, s1) ∧ step s = .next t ∧
      s.eiDelay = false) ∧
    (∃ s s1 t, runsInstruction s ∧ fetchInstr (s.setHalted false) = .ok (.reti, s1) ∧ step s = .next t ∧
      s.eiDelay = false) ∧
    ∃ s s1 t, runsInstruction s ∧ fetchInstr (s.setHalted false) = .ok (.ei, s1) ∧ step s = .next t ∧ s.eiDelay = false :=
  ⟨⟨{ code 0x0100 [0xF3] with eiDelay := true }, _, _, running rfl rfl, rfl, rfl, rfl⟩,
    ⟨{ code 0x0100 [0x00] with eiDelay := true }, _, _, running rfl rfl, rfl, rfl, rfl⟩,
    ⟨code 0x0100 [0xF3], _, _, running rfl rfl, rfl, rfl, rfl⟩,
    ⟨code 0x0100 [0xD9], _, _, running rfl rfl, rfl, rfl, rfl⟩,
    ⟨code 0x0100 [0xFB], _, _, running rfl rfl, rfl, rfl, rfl⟩⟩

/-- A machine that takes the timer interrupt, and with the accesses that fail. -/
theorem witness_InterruptEntry :
    (∃ e r, busPeek 0xFFFF interrupted = .ok e ∧ busPeek 0xFF0F interrupted = .ok r) ∧
    (State.reset.ime = false ∧ State.reset.halted = false) ∧
    (∃ (s s1 s2 s3 : State) (p v w : Byte), s.ime = true ∧ irqPending s = .ok p ∧ p ≠ 0 ∧
      pushWrites s.pc s = .ok s1 ∧ busRead 0xFF0F s1 = .ok (v, s2) ∧
      (∀ i, i < 8 → w.getLsbD i = if i = 2 then false else v.getLsbD i) ∧ busWrite 0xFF0F w s2 = .ok s3) ∧
    (∃ s p f, s.ime = true ∧ irqPending s = .ok p ∧ p ≠ 0 ∧ pushWrites s.pc s = .error f) ∧
    (∃ s s1 p f, s.ime = true ∧ irqPending s = .ok p ∧ p ≠ 0 ∧ pushWrites s.pc s = .ok s1 ∧
      busRead 0xFF0F s1 = .error f) ∧
    ∃ (s s1 s2 : State) (p v w : Byte) (f : Fault), s.ime = true ∧ irqPending s = .ok p ∧ p ≠ 0 ∧
      pushWrites s.pc s = .ok s1 ∧ busRead 0xFF0F s1 = .ok (v, s2) ∧
      (∀ i, i < 8 → w.getLsbD i = if i = 2 then false else v.getLsbD i) ∧ busWrite 0xFF0F w s2 = .error f :=
  ⟨⟨_, _, rfl, rfl⟩, ⟨rfl, rfl⟩,
    ⟨interrupted, _, _, _, 0x04, 0x04, 0x00, rfl, rfl, by decide, rfl, rfl, by decide, rfl⟩,
    ⟨{ interrupted with sp := 0xFF02, io := .rejecting [(0xFF01, .write)] }, 0x04, _, rfl, rfl, by decide, rfl⟩,
    ⟨{ interrupted with io := .rejecting [(0xFF0F, .read)] }, _, 0x04, _, rfl, rfl, by decide, rfl, rfl⟩,
    ⟨{ interrupted with io := .rejecting [(0xFF0F, .write)] }, _, _, 0x04, 0x04, 0x00, _, rfl, rfl, by decide, rfl, rfl,
      by decide, rfl⟩⟩

theorem witness_IdleAndWake :
    (∃ s, s.halted = true ∧ irqPending s = .ok 0) ∧
    (∃ s p, s.halted = true ∧ irqPending s = .ok p ∧ p ≠ 0 ∧ s.ime = false) :=
  ⟨⟨{ State.reset with halted := true }, rfl, rfl⟩,
    ⟨{ interrupted with halted := true, ime := false }, 0x04, rfl, rfl, by decide, rfl⟩⟩

/-- NOP stands in no row of the table of 10_state.md R38 and stores nowhere, so it meets every hypothesis of
`RegisterWriters` and `StoreFrame`. -/
theorem nop_writes_nothing :
    ¬writesA .nop ∧ ¬writesFlags .nop ∧ (∀ r, ¬writesByte r .nop) ∧ (∀ rp rs, ¬writesPair rp rs .nop) ∧ ¬writesHL .nop ∧
      ¬writesSP .nop ∧ ¬writesPC .nop := by
  refine ⟨?_, ?_, ?_, ?_, ?_, ?_, ?_⟩
  · rintro (⟨r, h⟩ | ⟨n, h⟩ | ⟨m, h⟩ | ⟨n, h⟩ | ⟨n, h⟩ | h | ⟨op, r, -, h⟩ | ⟨op, n, -, h⟩ | h | h | h | h | h | h | h | h |
      ⟨k, h⟩ | ⟨b, h⟩ | ⟨b, h⟩ | h)
    all_goals first
      | exact Instr.noConfusion h
      | (cases r <;> exact Instr.noConfusion h)
      | (cases m <;> exact Instr.noConfusion h)
      | (cases op <;> cases r <;> exact Instr.noConfusion h)
      | (cases op <;> exact Instr.noConfusion h)
      | (cases k <;> exact Instr.noConfusion h)
      | (cases b <;> exact Instr.noConfusion h)
  · rintro (⟨op, r, h⟩ | ⟨op, n, h⟩ | ⟨r, h⟩ | ⟨r, h⟩ | h | h | h | h | ⟨rp, h⟩ | ⟨e, h⟩ | ⟨e, h⟩ | h | h | h | h |
      ⟨k, r, h⟩ | ⟨b, r, h⟩ | h)
    all_goals first
      | exact Instr.noConfusion h
      | (cases r <;> exact Instr.noConfusion h)
      | (cases rp <;> exact Instr.noConfusion h)
      | (cases op <;> exact Instr.noConfusion h)
      | (cases op <;> cases r <;> exact Instr.noConfusion h)
      | (cases k <;> cases r <;> exact Instr.noConfusion h)
      | (cases b <;> cases r <;> exact Instr.noConfusion h)
  · rintro r (⟨r', h⟩ | ⟨n, h⟩ | h | h | ⟨k, h⟩ | ⟨b, h⟩ | ⟨b, h⟩)
    · cases r <;> cases r' <;> exact Instr.noConfusion h
    · cases r <;> exact Instr.noConfusion h
    · cases r <;> exact Instr.noConfusion h
    · cases r <;> exact Instr.noConfusion h
    · cases k <;> cases r <;> exact Instr.noConfusion h
    · cases b <;> cases r <;> exact Instr.noConfusion h
    · cases b <;> cases r <;> exact Instr.noConfusion h
  · rintro rp rs (⟨n, h⟩ | h | h | h)
    · cases rp <;> exact Instr.noConfusion h
    · cases rs <;> exact Instr.noConfusion h
    · cases rp <;> exact Instr.noConfusion h
    · cases rp <;> exact Instr.noConfusion h
  · rintro (⟨rp, h⟩ | ⟨e, h⟩ | h | h | h | h)
    all_goals first
      | exact Instr.noConfusion h
      | (cases rp <;> exact Instr.noConfusion h)
  · rintro (⟨n, h⟩ | h | h | h | ⟨e, h⟩ | ⟨rs, h⟩ | ⟨rs, h⟩ | ⟨n, h⟩ | ⟨cc, n, h⟩ | h | ⟨cc, h⟩ | h | ⟨t, h⟩)
    all_goals first
      | exact Instr.noConfusion h
      | (cases rs <;> exact Instr.noConfusion h)
      | (cases cc <;> exact Instr.noConfusion h)
      | (cases t <;> exact Instr.noConfusion h)
  · rintro (⟨n, h⟩ | ⟨cc, n, h⟩ | h | ⟨e, h⟩ | ⟨cc, e, h⟩ | ⟨n, h⟩ | ⟨cc, n, h⟩ | h | ⟨cc, h⟩ | h | ⟨t, h⟩)
    all_goals first
      | exact Instr.noConfusion h
      | (cases cc <;> exact Instr.noConfusion h)
      | (cases t <;> exact Instr.noConfusion h)

theorem witness_RegisterWriters : ∃ t, WellFormed .nop ∧ exec .nop inRam = .next t := ⟨_, rfl, rfl⟩

/-- LD [BC],A stores to the address in BC and to no other. -/
theorem witness_StoreFrame_address : ∀ a, storesAt .ld_atBC_A inRam a → a = inRam.bc := by
  rintro a (⟨-, h⟩ | ⟨m, h, rfl⟩ | h | ⟨n, h, -⟩ | ⟨h, -⟩ | ⟨n, h, -⟩ | ⟨-, h⟩)
  · exfalso
    rcases h with ⟨r, -, h⟩ | ⟨n, h⟩ | h | h | ⟨k, h⟩ | ⟨b, h⟩ | ⟨b, h⟩
    all_goals first
      | exact Instr.noConfusion h
      | (cases r <;> exact Instr.noConfusion h)
      | (cases k <;> exact Instr.noConfusion h)
      | (cases b <;> exact Instr.noConfusion h)
  · cases m <;> first | rfl | exact Instr.noConfusion h
  · exact Instr.noConfusion h
  · exact Instr.noConfusion h
  · exact Instr.noConfusion h
  · exact Instr.noConfusion h
  · exfalso
    rcases h with ⟨rs, h⟩ | ⟨n, h⟩ | ⟨cc, n, -, h⟩ | ⟨t, h⟩
    · cases rs <;> exact Instr.noConfusion h
    · exact Instr.noConfusion h
    · cases cc <;> exact Instr.noConfusion h
    · cases t <;> exact Instr.noConfusion h

theorem witness_StoreFrame :
    (∃ t, WellFormed .ld_atBC_A ∧ exec .ld_atBC_A inRam = .next t) ∧ inRam.closed 0xC000 ∧ inRam.wramx = .fixed ∧
      echoFold 0xC000 ≠ echoFold inRam.bc ∧ (0xC001 : Nat) % 0x10000 ≠ echoFold inRam.bc :=
  ⟨⟨_, rfl, rfl⟩, fun h => Access.noConfusion h, rfl, by decide, by decide⟩

end Sys2Proof.Tests
end

section
/-! SUPPORT. The order of a step's accesses: the interrupt test, the opcode fetch, the operand fetches. The first one that
fails decides the error (30_encoding.md R112; 60_exceptions.md R376). -/

namespace Sys2Proof.Machine

/-! ### The fetch of one byte -/

/-- An accepted read at PC is the whole fetch of a byte: PC advances and wraps (00_scope.md R14; 10_state.md R39). -/
theorem fetch8_of_busRead {s s1 : State} {v : Byte} (h : busRead s.pc s = .ok (v, s1)) :
    fetch8 s = .ok (v, { s1 with pc := s.pc + 1 }) := by
  have hpc : s1.pc = s.pc := by rw [busRead_ok h]
  unfold fetch8
  rw [h, ok_bind, ← hpc]
  rfl

theorem fetch8_of_busRead_error {s : State} {f : Fault} (h : busRead s.pc s = .error f) : fetch8 s = .error f := by
  unfold fetch8
  rw [h, error_bind]

/-! ### The fetch of an instruction -/

theorem fetchInstr_of_opcode_error {s : State} {f : Fault} (h : fetch8 s = .error f) : fetchInstr s = .error f := by
  unfold fetchInstr
  rw [h, error_bind]

theorem fetchInstr_of_operand_error {s s1 : State} {op : Byte} {f : Fault} (hop : fetch8 s = .ok (op, s1))
    (h : fetchBytes (instrLength op - 1) s1 = .error f) : fetchInstr s = .error f := by
  unfold fetchInstr
  rw [hop, ok_bind]
  dsimp only
  rw [h, error_bind]

/-! ### The step -/

/-- The interrupt test comes before every fetch (60_exceptions.md R376). -/
theorem step_of_pendingAtStart_error {s : State} {f : Fault} (h : pendingAtStart s = .error f) : step s = .fault f := by
  unfold step stepWith
  rw [h]

/-- A failed fetch ends the step, and nothing is executed (60_exceptions.md R372, R376). -/
theorem step_of_fetchInstr_error {s : State} {f : Fault} (hr : runsInstruction s)
    (h : fetchInstr (s.setHalted false) = .error f) : step s = .fault f := by
  rw [step_runs hr, h]

/-- Settles O11: a fetch is the read at PC, and a step fails with the first access that fails, in the order interrupt
test, opcode, operands. -/
theorem fetchByteAndOrder : Obligations.FetchByteAndOrder := by
  unfold Obligations.FetchByteAndOrder
  refine ⟨fun s s1 v h => ⟨fetch8_of_busRead h, fun hpc => ?_⟩, fun _ _ => fetch8_of_busRead_error,
    fun _ _ => step_of_pendingAtStart_error,
    fun _ _ hr h => step_of_fetchInstr_error hr (fetchInstr_of_opcode_error h),
    fun _ _ _ _ hr hop h => step_of_fetchInstr_error hr (fetchInstr_of_operand_error hop h)⟩
  have hwrap : s.pc + 1 = 0x0000 := by rw [hpc]; rfl
  rw [fetch8_of_busRead h, hwrap]

end Sys2Proof.Machine
end

section
/-! SUPPORT. What an instruction can change (10_state.md R38): every meaning is followed once, as a chain of register
writes and accepted bus accesses, and what all of them keep is read off the chain. -/

namespace Sys2Proof.Machine

/-! ### The registers of the table of 10_state.md R38 -/

/-- The rows of the table, the row of B, C, D, E, H, L taken apart into its registers. -/
inductive Reg where
  | a | f | b | c | d | e | h | l | sp | pc

/-- How many bits a register holds. -/
def Reg.width (r : Reg) : Nat :=
  match r with
  | .sp | .pc => 16
  | .a | .f | .b | .c | .d | .e | .h | .l => 8

/-- What a register reads as. -/
def State.reg (s : State) (r : Reg) : BitVec r.width :=
  match r with
  | .a => s.A
  | .f => s.F
  | .b => s.B
  | .c => s.C
  | .d => s.D
  | .e => s.E
  | .h => s.H
  | .l => s.L
  | .sp => s.sp
  | .pc => s.pc

/-- The register an 8-bit operand is, none for `[HL]`. -/
def regsOfR8 (x : R8) : List Reg :=
  match x with
  | .b => [.b]
  | .c => [.c]
  | .d => [.d]
  | .e => [.e]
  | .h => [.h]
  | .l => [.l]
  | .atHL => []
  | .a => [.a]

/-- The registers of a pair of `r16`. -/
def regsOfR16 (rp : R16) : List Reg :=
  match rp with
  | .bc => [.b, .c]
  | .de => [.d, .e]
  | .hl => [.h, .l]
  | .sp => [.sp]

/-- The registers of a stack pair. -/
def regsOfR16Stk (rp : R16Stk) : List Reg :=
  match rp with
  | .bc => [.b, .c]
  | .de => [.d, .e]
  | .hl => [.h, .l]
  | .af => [.a, .f]

/-- The registers an address selector changes. -/
def regsOfR16Mem (m : R16Mem) : List Reg :=
  match m with
  | .bc | .de => []
  | .hlInc | .hlDec => [.h, .l]

/-- The registers that have `i` in their row of the table of 10_state.md R38. -/
def mayWrite (i : Instr) (r : Reg) : Prop :=
  match r with
  | .a => writesA i
  | .f => writesFlags i
  | .b => writesByte .b i ∨ writesPair .bc .bc i
  | .c => writesByte .c i ∨ writesPair .bc .bc i
  | .d => writesByte .d i ∨ writesPair .de .de i
  | .e => writesByte .e i ∨ writesPair .de .de i
  | .h => writesByte .h i ∨ writesPair .hl .hl i ∨ writesHL i
  | .l => writesByte .l i ∨ writesPair .hl .hl i ∨ writesHL i
  | .sp => writesSP i
  | .pc => writesPC i

/-! ### States reached by writes to some registers and accepted bus accesses -/

/-- `t` keeps what `s` has: the invariant of the machine, and what every register outside `w` reads as. -/
structure Within (w : Reg → Prop) (s t : State) : Prop where
  inv : StateInv s → StateInv t
  regs : ∀ r, ¬ w r → t.reg r = s.reg r

/-! One rule per state operation: a chain of them follows a meaning from its first state to its last. -/

namespace Within
variable {w : Reg → Prop} {s t u : State}

theorem refl (w : Reg → Prop) (s : State) : Within w s s := ⟨id, fun _ _ => rfl⟩

theorem trans (h : Within w s t) (h' : Within w t u) : Within w s u :=
  ⟨fun hs => h'.inv (h.inv hs), fun r hr => (h'.regs r hr).trans (h.regs r hr)⟩

/-- IME, `halted`, `ei_delay` and the count are no registers of the table, and the invariant does not read them. -/
theorem engine {ime halted eiDelay : Bool} {cycles : Nat} (h : Within w s t) :
    Within w s { t with ime := ime, halted := halted, eiDelay := eiDelay, cycles := cycles } :=
  h.trans ⟨fun hs => hs.of_eq rfl rfl, fun r _ => by cases r <;> rfl⟩

theorem setA {v : Byte} (h : Within w s t) (hw : w .a) : Within w s (t.setA v) :=
  h.trans ⟨fun hs => hs.setA v, fun r hr => by
    cases r with
    | a => exact absurd hw hr
    | f => exact State.setA_F t v
    | _ => rfl⟩

theorem setF {v : Byte} (h : Within w s t) (hw : w .f) : Within w s (t.setF v) :=
  h.trans ⟨fun hs => hs.setF v, fun r hr => by
    cases r with
    | a => exact State.setF_A t v
    | f => exact absurd hw hr
    | _ => rfl⟩

theorem setSP {v : Word} (h : Within w s t) (hw : w .sp) : Within w s (t.setSP v) :=
  h.trans ⟨fun hs => hs.of_eq rfl rfl, fun r hr => by
    cases r with
    | sp => exact absurd hw hr
    | _ => rfl⟩

theorem setPC {v : Word} (h : Within w s t) (hw : w .pc) : Within w s (t.setPC v) :=
  h.trans ⟨fun hs => hs.of_eq rfl rfl, fun r hr => by
    cases r with
    | pc => exact absurd hw hr
    | _ => rfl⟩

theorem setBC {v : Word} (h : Within w s t) (hw : ∀ r ∈ [Reg.b, .c], w r) : Within w s (t.setBC v) :=
  h.trans ⟨fun hs => hs.of_eq rfl rfl, fun r hr => by
    cases r with
    | b | c => exact absurd (hw _ (by simp)) hr
    | _ => rfl⟩

theorem setDE {v : Word} (h : Within w s t) (hw : ∀ r ∈ [Reg.d, .e], w r) : Within w s (t.setDE v) :=
  h.trans ⟨fun hs => hs.of_eq rfl rfl, fun r hr => by
    cases r with
    | d | e => exact absurd (hw _ (by simp)) hr
    | _ => rfl⟩

theorem setHL {v : Word} (h : Within w s t) (hw : ∀ r ∈ [Reg.h, .l], w r) : Within w s (t.setHL v) :=
  h.trans ⟨fun hs => hs.of_eq rfl rfl, fun r hr => by
    cases r with
    | h | l => exact absurd (hw _ (by simp)) hr
    | _ => rfl⟩

theorem setAF {v : Word} (h : Within w s t) (hw : ∀ r ∈ [Reg.a, .f], w r) : Within w s (t.setAF v) :=
  h.trans ⟨fun hs => hs.setAF v, fun r hr => by
    cases r with
    | a | f => exact absurd (hw _ (by simp)) hr
    | _ => rfl⟩

theorem r16set {rp : R16} {v : Word} (h : Within w s t) (hw : ∀ r ∈ regsOfR16 rp, w r) :
    Within w s (r16set rp v t) := by
  cases rp with
  | bc => exact h.setBC hw
  | de => exact h.setDE hw
  | hl => exact h.setHL hw
  | sp => exact h.setSP (List.forall_mem_singleton.1 hw)

theorem r16stkSet {rp : R16Stk} {v : Word} (h : Within w s t) (hw : ∀ r ∈ regsOfR16Stk rp, w r) :
    Within w s (r16stkSet rp v t) := by
  cases rp with
  | bc => exact h.setBC hw
  | de => exact h.setDE hw
  | hl => exact h.setHL hw
  | af => exact h.setAF hw

theorem r16mem {m : R16Mem} (h : Within w s t) (hw : ∀ r ∈ regsOfR16Mem m, w r) : Within w s (r16mem m t).2 := by
  cases m with
  | bc | de => exact h
  | hlInc | hlDec => exact h.setHL hw

/-! The bus, the operands and the stack. -/

theorem busRead {a : Word} {v : Byte} (h : Within w s t) (hr : busRead a t = .ok (v, u)) : Within w s u := by
  rw [busRead_ok hr]
  exact h.trans ⟨fun hs => hs.of_eq rfl rfl, fun r _ => by cases r <;> rfl⟩

theorem busWrite {a : Word} {v : Byte} (h : Within w s t) (hr : busWrite a v t = .ok u) : Within w s u :=
  h.trans ⟨busWrite_keeps hr, fun r _ => by rw [(busWrite_ok hr).1]; cases r <;> rfl⟩

theorem r8get {x : R8} {v : Byte} (h : Within w s t) (hr : r8get x t = .ok (v, u)) : Within w s u := by
  rw [r8get_ok hr]
  exact h.trans ⟨fun hs => hs.of_eq rfl rfl, fun r _ => by cases r <;> rfl⟩

theorem r8set {x : R8} {v : Byte} (h : Within w s t) (hw : ∀ r ∈ regsOfR8 x, w r) (hr : r8set x v t = .ok u) :
    Within w s u := by
  refine h.trans ⟨r8set_keeps hr, fun r hn => ?_⟩
  obtain ⟨hu, hF⟩ := r8set_ok hr
  obtain ⟨hA, hB, hC, hD, hE, hH, hL, -⟩ := r8set_frame hr
  have hx : r ∉ regsOfR8 x := fun hm => hn (hw r hm)
  cases r with
  | a => exact hA fun e => hx (by simp [e, regsOfR8])
  | f => exact hF
  | b => exact hB fun e => hx (by simp [e, regsOfR8])
  | c => exact hC fun e => hx (by simp [e, regsOfR8])
  | d => exact hD fun e => hx (by simp [e, regsOfR8])
  | e => exact hE fun e => hx (by simp [e, regsOfR8])
  | h => exact hH fun e => hx (by simp [e, regsOfR8])
  | l => exact hL fun e => hx (by simp [e, regsOfR8])
  | sp | pc => rw [hu]; rfl

theorem push16 {v : Word} (h : Within w s t) (hw : w .sp) (hr : push16 v t = .ok u) : Within w s u := by
  refine h.trans ⟨push16_keeps hr, fun r hn => ?_⟩
  obtain ⟨u', hp, rfl⟩ := push16_ok hr
  rw [pushWrites_ok hp]
  cases r with
  | sp => exact absurd hw hn
  | _ => rfl

theorem pop16 {v : Word} (h : Within w s t) (hw : w .sp) (hr : pop16 t = .ok (v, u)) : Within w s u := by
  refine h.trans ⟨pop16_keeps hr, fun r hn => ?_⟩
  rw [pop16_ok hr]
  cases r with
  | sp => exact absurd hw hn
  | _ => rfl

end Within

/-! ### Operands and their rows -/

/-- The forms that write a named 8-bit operand stand in its register's row. -/
theorem mayWrite_of_writesByte {x : R8} {i : Instr} (h : writesByte x i) : ∀ r ∈ regsOfR8 x, mayWrite i r := by
  cases x with
  | atHL => exact List.forall_mem_nil _
  | a =>
    refine List.forall_mem_singleton.2 ?_
    show writesA i
    unfold writesA
    rcases h with h | h | h | h | h | h | h <;> simp only [h, true_or, or_true]
  | _ => exact List.forall_mem_singleton.2 (.inl h)

/-- The forms that write a named pair of `r16` stand in the rows of its registers. -/
theorem mayWrite_of_pairForm {rp : R16} {i : Instr}
    (h : (∃ n, i = mkLdR16 rp n) ∨ i = mkIncR16 rp ∨ i = mkDecR16 rp) : ∀ r ∈ regsOfR16 rp, mayWrite i r := by
  have hp : ∀ rs, writesPair rp rs i := fun _ => h.imp_right .inr
  cases rp with
  | bc => exact List.forall_mem_cons.2 ⟨.inr (hp .bc), List.forall_mem_singleton.2 (.inr (hp .bc))⟩
  | de => exact List.forall_mem_cons.2 ⟨.inr (hp .de), List.forall_mem_singleton.2 (.inr (hp .de))⟩
  | hl => exact List.forall_mem_cons.2 ⟨.inr (.inl (hp .hl)), List.forall_mem_singleton.2 (.inr (.inl (hp .hl)))⟩
  | sp =>
    refine List.forall_mem_singleton.2 ?_
    show writesSP i
    unfold writesSP
    rcases h with h | h | h <;> simp only [h, true_or, or_true]

/-- The forms that name HL by themselves stand in the rows of H and L. -/
theorem mayWrite_of_writesHL {i : Instr} (h : writesHL i) : ∀ r ∈ [Reg.h, .l], mayWrite i r :=
  List.forall_mem_cons.2 ⟨.inr (.inr h), List.forall_mem_singleton.2 (.inr (.inr h))⟩

theorem mayWrite_mkPop (rp : R16Stk) : ∀ r ∈ regsOfR16Stk rp, mayWrite (mkPop rp) r := by
  cases rp <;> simp [regsOfR16Stk, mayWrite, writesPair, writesA, writesFlags, mkPop]

theorem mayWrite_mkStoreMem (m : R16Mem) : ∀ r ∈ regsOfR16Mem m, mayWrite (mkStoreMem m) r := by
  cases m with
  | bc | de => exact List.forall_mem_nil _
  | hlInc | hlDec => exact mayWrite_of_writesHL (by simp [writesHL])

theorem mayWrite_mkLoadMem (m : R16Mem) : ∀ r ∈ regsOfR16Mem m, mayWrite (mkLoadMem m) r := by
  cases m with
  | bc | de => exact List.forall_mem_nil _
  | hlInc | hlDec => exact mayWrite_of_writesHL (by simp [writesHL])

/-! ### The forms -/

/-- `i` writes no register outside its rows, and keeps the invariant. -/
def KeepsRows (i : Instr) : Prop := ∀ s t, exec i s = .next t → Within (mayWrite i) s t

/-- What `exec` calls for `i` decides. -/
theorem KeepsRows.of_meaning {i : Instr} {f : State → Except Fault State} (he : ∀ s, exec i s = outcome (f s))
    (hf : ∀ s t, f s = .ok t → Within (mayWrite i) s t) : KeepsRows i :=
  fun s t h => hf s t (outcome_eq_next.1 (he s ▸ h))

/-! 8-bit loads (40_loads.md). -/

theorem keepsRows_mkLd {dst src : R8} (hn : ¬(dst = .atHL ∧ src = .atHL)) : KeepsRows (mkLd dst src) :=
  .of_meaning (exec_mkLd hn) fun s t h => by
    have hx : ∀ r ∈ regsOfR8 dst, mayWrite (mkLd dst src) r :=
      mayWrite_of_writesByte (by simp [writesByte])
    obtain ⟨⟨v, s1⟩, h1, h⟩ := bind_eq_ok.1 h
    obtain ⟨s2, h2, h⟩ := bind_eq_ok.1 h
    cases h
    exact (((Within.refl _ s).r8get h1).r8set hx h2).engine

theorem keepsRows_mkLdImm (dst : R8) (n : Byte) : KeepsRows (mkLdImm dst n) :=
  .of_meaning (exec_mkLdImm dst n) fun s t h => by
    have hx : ∀ r ∈ regsOfR8 dst, mayWrite (mkLdImm dst n) r :=
      mayWrite_of_writesByte (by simp [writesByte])
    obtain ⟨s1, h1, h⟩ := bind_eq_ok.1 h
    cases h
    exact ((Within.refl _ s).r8set hx h1).engine

theorem keepsRows_mkStoreMem (m : R16Mem) : KeepsRows (mkStoreMem m) :=
  .of_meaning (exec_mkStoreMem m) fun s t h => by
    obtain ⟨s1, h1, h⟩ := bind_eq_ok.1 h
    cases h
    exact (((Within.refl _ s).r16mem (mayWrite_mkStoreMem m)).busWrite h1).engine

theorem keepsRows_mkLoadMem (m : R16Mem) : KeepsRows (mkLoadMem m) :=
  .of_meaning (exec_mkLoadMem m) fun s t h => by
    have ha : mayWrite (mkLoadMem m) .a := by simp [mayWrite, writesA]
    obtain ⟨⟨v, s1⟩, h1, h⟩ := bind_eq_ok.1 h
    cases h
    exact ((((Within.refl _ s).r16mem (mayWrite_mkLoadMem m)).busRead h1).setA ha).engine

/-- A meaning that stores A at an address. -/
theorem keepsRows_of_storeA {i : Instr} {addr : State → Word} {n : Nat}
    (he : ∀ s, exec i s = outcome (busWrite (addr s) s.A s >>= fun t => .ok (t.setCycles n))) : KeepsRows i :=
  .of_meaning he fun s t h => by
    obtain ⟨s1, h1, h⟩ := bind_eq_ok.1 h
    cases h
    exact ((Within.refl _ s).busWrite h1).engine

/-- A meaning that loads A from an address. -/
theorem keepsRows_of_loadA {i : Instr} {addr : State → Word} {n : Nat} (ha : writesA i)
    (he : ∀ s, exec i s = outcome (busRead (addr s) s >>= fun p => .ok ((p.2.setA p.1).setCycles n))) :
    KeepsRows i :=
  .of_meaning he fun s t h => by
    obtain ⟨⟨v, s1⟩, h1, h⟩ := bind_eq_ok.1 h
    cases h
    exact (((Within.refl _ s).busRead h1).setA ha).engine

/-! 16-bit loads and arithmetic (40_loads.md R163, 42_alu16.md). -/

/-- A meaning that writes a pair of `r16`. -/
theorem keepsRows_of_r16set {i : Instr} {rp : R16} {v : State → Word} {n : Nat}
    (hi : (∃ n, i = mkLdR16 rp n) ∨ i = mkIncR16 rp ∨ i = mkDecR16 rp)
    (he : ∀ s, exec i s = outcome (.ok ((r16set rp (v s) s).setCycles n))) : KeepsRows i :=
  .of_meaning he fun s t h => by
    cases h
    exact ((Within.refl _ s).r16set (mayWrite_of_pairForm hi)).engine

theorem keepsRows_mkAddHL (rp : R16) : KeepsRows (mkAddHL rp) :=
  .of_meaning (exec_mkAddHL rp) fun s t h => by
    have hr : ∀ r ∈ [Reg.h, .l], mayWrite (mkAddHL rp) r := mayWrite_of_writesHL (by simp [writesHL])
    have hf : mayWrite (mkAddHL rp) .f := by simp [mayWrite, writesFlags]
    cases h
    exact (((Within.refl _ s).setHL hr).setF hf).engine

/-! 8-bit arithmetic and logic (41_alu8.md). -/

/-- Every operation writes F, and every one but CP writes A. -/
theorem Within.aluEffect {w : Reg → Prop} {s t : State} {op : AluOp} {v : Byte} (h : Within w s t)
    (ha : op ≠ .cp → w .a) (hf : w .f) : Within w s (aluEffect op v t) := by
  unfold Machine.aluEffect
  refine Within.setF ?_ hf
  split
  · next hop => exact h.setA (ha fun e => by simp [e, aluWrites] at hop)
  · exact h

theorem writesA_mkAlu {op : AluOp} (x : R8) (hop : op ≠ .cp) : writesA (mkAlu op x) :=
  .inr (.inr (.inr (.inr (.inr (.inr (.inl ⟨op, x, hop, rfl⟩))))))

theorem writesA_mkAluImm {op : AluOp} (n : Byte) (hop : op ≠ .cp) : writesA (mkAluImm op n) :=
  .inr (.inr (.inr (.inr (.inr (.inr (.inr (.inl ⟨op, n, hop, rfl⟩)))))))

theorem keepsRows_mkAlu (op : AluOp) (x : R8) : KeepsRows (mkAlu op x) :=
  .of_meaning (exec_mkAlu op x) fun s t h => by
    have hf : mayWrite (mkAlu op x) .f := by simp [mayWrite, writesFlags]
    obtain ⟨⟨v, s1⟩, h1, h⟩ := bind_eq_ok.1 h
    cases h
    exact (((Within.refl _ s).r8get h1).aluEffect (writesA_mkAlu x) hf).engine

theorem keepsRows_mkAluImm (op : AluOp) (n : Byte) : KeepsRows (mkAluImm op n) :=
  .of_meaning (exec_mkAluImm op n) fun s t h => by
    have hf : mayWrite (mkAluImm op n) .f := by simp [mayWrite, writesFlags]
    cases h
    exact ((Within.refl _ s).aluEffect (writesA_mkAluImm n) hf).engine

theorem keepsRows_mkInc8 (x : R8) : KeepsRows (mkInc8 x) :=
  .of_meaning (exec_mkInc8 x) fun s t h => by
    have hx : ∀ r ∈ regsOfR8 x, mayWrite (mkInc8 x) r :=
      mayWrite_of_writesByte (by simp [writesByte])
    have hf : mayWrite (mkInc8 x) .f := by simp [mayWrite, writesFlags]
    obtain ⟨⟨v, s1⟩, h1, h⟩ := bind_eq_ok.1 h
    obtain ⟨s2, h2, h⟩ := bind_eq_ok.1 h
    cases h
    exact ((((Within.refl _ s).r8get h1).r8set hx h2).setF hf).engine

theorem keepsRows_mkDec8 (x : R8) : KeepsRows (mkDec8 x) :=
  .of_meaning (exec_mkDec8 x) fun s t h => by
    have hx : ∀ r ∈ regsOfR8 x, mayWrite (mkDec8 x) r :=
      mayWrite_of_writesByte (by simp [writesByte])
    have hf : mayWrite (mkDec8 x) .f := by simp [mayWrite, writesFlags]
    obtain ⟨⟨v, s1⟩, h1, h⟩ := bind_eq_ok.1 h
    obtain ⟨s2, h2, h⟩ := bind_eq_ok.1 h
    cases h
    exact ((((Within.refl _ s).r8get h1).r8set hx h2).setF hf).engine

theorem keepsRows_daa : KeepsRows .daa :=
  .of_meaning (f := decimalAdjust) (fun _ => rfl) fun s t h => by
    have ha : mayWrite .daa .a := by simp [mayWrite, writesA]
    have hf : mayWrite .daa .f := by simp [mayWrite, writesFlags]
    cases h
    exact (((Within.refl _ s).setA ha).setF hf).engine

theorem keepsRows_cpl : KeepsRows .cpl :=
  .of_meaning (f := complementA) (fun _ => rfl) fun s t h => by
    have ha : mayWrite .cpl .a := by simp [mayWrite, writesA]
    have hf : mayWrite .cpl .f := by simp [mayWrite, writesFlags]
    cases h
    exact ((((Within.refl _ s).setA ha).setF hf).setF hf).engine

theorem keepsRows_scf : KeepsRows .scf :=
  .of_meaning (f := setCarry) (fun _ => rfl) fun s t h => by
    have hf : mayWrite .scf .f := by simp [mayWrite, writesFlags]
    cases h
    exact ((((Within.refl _ s).setF hf).setF hf).setF hf).engine

theorem keepsRows_ccf : KeepsRows .ccf :=
  .of_meaning (f := complementCarry) (fun _ => rfl) fun s t h => by
    have hf : mayWrite .ccf .f := by simp [mayWrite, writesFlags]
    cases h
    exact ((((Within.refl _ s).setF hf).setF hf).setF hf).engine

/-! Rotates, shifts and bit operations (45_bitops.md). -/

theorem keepsRows_of_rotateA {i : Instr} {k : RotOp} (he : ∀ s, exec i s = outcome (rotateA k s)) (ha : writesA i)
    (hf : writesFlags i) : KeepsRows i :=
  .of_meaning he fun s t h => by
    cases h
    exact (((Within.refl _ s).setA ha).setF hf).engine

theorem keepsRows_mkRot (k : RotOp) (x : R8) : KeepsRows (mkRot k x) :=
  .of_meaning (exec_mkRot k x) fun s t h => by
    have hx : ∀ r ∈ regsOfR8 x, mayWrite (mkRot k x) r :=
      mayWrite_of_writesByte (.inr (.inr (.inr (.inr (.inl ⟨k, rfl⟩)))))
    have hf : mayWrite (mkRot k x) .f := by simp [mayWrite, writesFlags]
    obtain ⟨⟨v, s1⟩, h1, h⟩ := bind_eq_ok.1 h
    obtain ⟨s2, h2, h⟩ := bind_eq_ok.1 h
    cases h
    exact ((((Within.refl _ s).r8get h1).r8set hx h2).setF hf).engine

theorem keepsRows_mkBit (b : Ix3) (x : R8) : KeepsRows (mkBit b x) :=
  .of_meaning (exec_mkBit b x) fun s t h => by
    have hf : mayWrite (mkBit b x) .f := by simp [mayWrite, writesFlags]
    obtain ⟨⟨v, s1⟩, h1, h⟩ := bind_eq_ok.1 h
    cases h
    exact (((Within.refl _ s).r8get h1).setF hf).engine

theorem keepsRows_mkRes (b : Ix3) (x : R8) : KeepsRows (mkRes b x) :=
  .of_meaning (exec_mkRes b x) fun s t h => by
    have hx : ∀ r ∈ regsOfR8 x, mayWrite (mkRes b x) r :=
      mayWrite_of_writesByte (.inr (.inr (.inr (.inr (.inr (.inl ⟨b, rfl⟩))))))
    obtain ⟨⟨v, s1⟩, h1, h⟩ := bind_eq_ok.1 h
    obtain ⟨s2, h2, h⟩ := bind_eq_ok.1 h
    cases h
    exact (((Within.refl _ s).r8get h1).r8set hx h2).engine

theorem keepsRows_mkSet (b : Ix3) (x : R8) : KeepsRows (mkSet b x) :=
  .of_meaning (exec_mkSet b x) fun s t h => by
    have hx : ∀ r ∈ regsOfR8 x, mayWrite (mkSet b x) r :=
      mayWrite_of_writesByte (.inr (.inr (.inr (.inr (.inr (.inr ⟨b, rfl⟩))))))
    obtain ⟨⟨v, s1⟩, h1, h⟩ := bind_eq_ok.1 h
    obtain ⟨s2, h2, h⟩ := bind_eq_ok.1 h
    cases h
    exact (((Within.refl _ s).r8get h1).r8set hx h2).engine

/-! Jumps, calls and returns (43_jumps.md). -/

/-- A meaning that jumps in every state. -/
theorem keepsRows_of_setPC {i : Instr} {target : State → Word} {n : Nat} (hpc : writesPC i)
    (he : ∀ s, exec i s = outcome (.ok ((s.setPC (target s)).setCycles n))) : KeepsRows i :=
  .of_meaning he fun s t h => by
    cases h
    exact ((Within.refl _ s).setPC hpc).engine

theorem keepsRows_mkJpIf (cc : Cond) (n : Word) : KeepsRows (mkJpIf cc n) :=
  .of_meaning (exec_mkJpIf cc n) fun s t h => by
    have hpc : mayWrite (mkJpIf cc n) .pc := by simp [mayWrite, writesPC]
    unfold jumpIf at h
    split at h
    · cases h
      exact ((Within.refl _ s).setPC hpc).engine
    · cases h
      exact (Within.refl _ s).engine

theorem keepsRows_mkJrIf (cc : Cond) (e : Byte) : KeepsRows (mkJrIf cc e) :=
  .of_meaning (exec_mkJrIf cc e) fun s t h => by
    have hpc : mayWrite (mkJrIf cc e) .pc := by simp [mayWrite, writesPC]
    unfold jumpRelIf at h
    split at h
    · cases h
      exact ((Within.refl _ s).setPC hpc).engine
    · cases h
      exact (Within.refl _ s).engine

theorem keepsRows_call_n16 (n : Word) : KeepsRows (.call_n16 n) :=
  .of_meaning (f := call n) (fun _ => rfl) fun s t h => by
    have hsp : mayWrite (.call_n16 n) .sp := by simp [mayWrite, writesSP]
    have hpc : mayWrite (.call_n16 n) .pc := by simp [mayWrite, writesPC]
    obtain ⟨s1, h1, h⟩ := bind_eq_ok.1 h
    cases h
    exact (((Within.refl _ s).push16 hsp h1).setPC hpc).engine

theorem keepsRows_mkCallIf (cc : Cond) (n : Word) : KeepsRows (mkCallIf cc n) :=
  .of_meaning (exec_mkCallIf cc n) fun s t h => by
    have hsp : mayWrite (mkCallIf cc n) .sp := by simp [mayWrite, writesSP]
    have hpc : mayWrite (mkCallIf cc n) .pc := by simp [mayWrite, writesPC]
    unfold callIf at h
    split at h
    · obtain ⟨s1, h1, h⟩ := bind_eq_ok.1 h
      cases h
      exact (((Within.refl _ s).push16 hsp h1).setPC hpc).engine
    · cases h
      exact (Within.refl _ s).engine

theorem keepsRows_mkRst (k : Ix3) : KeepsRows (mkRst k) :=
  .of_meaning (exec_mkRst k) fun s t h => by
    have hsp : mayWrite (mkRst k) .sp := by simp [mayWrite, writesSP]
    have hpc : mayWrite (mkRst k) .pc := by simp [mayWrite, writesPC]
    obtain ⟨s1, h1, h⟩ := bind_eq_ok.1 h
    cases h
    exact (((Within.refl _ s).push16 hsp h1).setPC hpc).engine

theorem keepsRows_ret : KeepsRows .ret :=
  .of_meaning (f := ret) (fun _ => rfl) fun s t h => by
    have hsp : mayWrite .ret .sp := by simp [mayWrite, writesSP]
    have hpc : mayWrite .ret .pc := by simp [mayWrite, writesPC]
    obtain ⟨⟨v, s1⟩, h1, h⟩ := bind_eq_ok.1 h
    cases h
    exact (((Within.refl _ s).pop16 hsp h1).setPC hpc).engine

theorem keepsRows_mkRetIf (cc : Cond) : KeepsRows (mkRetIf cc) :=
  .of_meaning (exec_mkRetIf cc) fun s t h => by
    have hsp : mayWrite (mkRetIf cc) .sp := by simp [mayWrite, writesSP]
    have hpc : mayWrite (mkRetIf cc) .pc := by simp [mayWrite, writesPC]
    unfold retIf at h
    split at h
    · obtain ⟨⟨v, s1⟩, h1, h⟩ := bind_eq_ok.1 h
      cases h
      exact (((Within.refl _ s).pop16 hsp h1).setPC hpc).engine
    · cases h
      exact (Within.refl _ s).engine

theorem keepsRows_reti : KeepsRows .reti :=
  .of_meaning (f := retInterrupt) (fun _ => rfl) fun s t h => by
    have hsp : mayWrite .reti .sp := by simp [mayWrite, writesSP]
    have hpc : mayWrite .reti .pc := by simp [mayWrite, writesPC]
    obtain ⟨s2, h2, h⟩ := bind_eq_ok.1 h
    obtain ⟨⟨v, s1⟩, h1, h2⟩ := bind_eq_ok.1 h2
    cases h2
    cases h
    exact (((Within.refl _ s).pop16 hsp h1).setPC hpc).engine

/-! The stack and SP (44_stack.md). -/

theorem keepsRows_mkPush (rp : R16Stk) : KeepsRows (mkPush rp) :=
  .of_meaning (exec_mkPush rp) fun s t h => by
    have hsp : mayWrite (mkPush rp) .sp := by simp [mayWrite, writesSP]
    obtain ⟨s1, h1, h⟩ := bind_eq_ok.1 h
    cases h
    exact ((Within.refl _ s).push16 hsp h1).engine

theorem keepsRows_mkPop (rp : R16Stk) : KeepsRows (mkPop rp) :=
  .of_meaning (exec_mkPop rp) fun s t h => by
    have hsp : mayWrite (mkPop rp) .sp := by simp [mayWrite, writesSP]
    obtain ⟨⟨v, s1⟩, h1, h⟩ := bind_eq_ok.1 h
    cases h
    exact (((Within.refl _ s).pop16 hsp h1).r16stkSet (mayWrite_mkPop rp)).engine

theorem keepsRows_ld_atn16_SP (n : Word) : KeepsRows (.ld_atn16_SP n) :=
  .of_meaning (f := storeSP n) (fun _ => rfl) fun s t h => by
    obtain ⟨s1, h1, h⟩ := bind_eq_ok.1 h
    obtain ⟨s2, h2, h⟩ := bind_eq_ok.1 h
    cases h
    exact (((Within.refl _ s).busWrite h1).busWrite h2).engine

theorem keepsRows_ld_SP_HL : KeepsRows .ld_SP_HL :=
  .of_meaning (f := loadSPHL) (fun _ => rfl) fun s t h => by
    have hsp : mayWrite .ld_SP_HL .sp := by simp [mayWrite, writesSP]
    cases h
    exact ((Within.refl _ s).setSP hsp).engine

theorem keepsRows_add_SP_e8 (e : Byte) : KeepsRows (.add_SP_e8 e) :=
  .of_meaning (f := addSPe8 e) (fun _ => rfl) fun s t h => by
    have hf : mayWrite (.add_SP_e8 e) .f := by simp [mayWrite, writesFlags]
    have hsp : mayWrite (.add_SP_e8 e) .sp := by simp [mayWrite, writesSP]
    cases h
    exact (((Within.refl _ s).setSP hsp).setF hf).engine

theorem keepsRows_ld_HL_SPe8 (e : Byte) : KeepsRows (.ld_HL_SPe8 e) :=
  .of_meaning (f := loadHLSPe8 e) (fun _ => rfl) fun s t h => by
    have hr : ∀ r ∈ [Reg.h, .l], mayWrite (.ld_HL_SPe8 e) r := mayWrite_of_writesHL (by simp [writesHL])
    have hf : mayWrite (.ld_HL_SPe8 e) .f := by simp [mayWrite, writesFlags]
    cases h
    exact (((Within.refl _ s).setHL hr).setF hf).engine

/-! Control (46_control.md). -/

/-- A meaning that changes the engine fields alone. -/
theorem keepsRows_of_engine {i : Instr} {f : State → Except Fault State} (he : ∀ s, exec i s = outcome (f s))
    (hf : ∀ s, ∃ ime halted eiDelay cycles,
      f s = .ok { s with ime := ime, halted := halted, eiDelay := eiDelay, cycles := cycles }) : KeepsRows i :=
  .of_meaning he fun s t h => by
    obtain ⟨ime, halted, eiDelay, cycles, e⟩ := hf s
    cases e.symm.trans h
    exact (Within.refl _ s).engine

/-! ### Every instruction -/

theorem keepsRows {i : Instr} (hw : WellFormed i) : KeepsRows i :=
  Instr.formCases (P := KeepsRows)
    (ld := fun _ _ => keepsRows_mkLd)
    (ldImm := keepsRows_mkLdImm)
    (ldR16 := fun rp n => keepsRows_of_r16set (.inl ⟨n, rfl⟩) (exec_mkLdR16 rp n))
    (storeMem := keepsRows_mkStoreMem) (loadMem := keepsRows_mkLoadMem)
    (incR16 := fun rp => keepsRows_of_r16set (.inr (.inl rfl)) (exec_mkIncR16 rp))
    (decR16 := fun rp => keepsRows_of_r16set (.inr (.inr rfl)) (exec_mkDecR16 rp))
    (addHL := keepsRows_mkAddHL) (inc8 := keepsRows_mkInc8) (dec8 := keepsRows_mkDec8) (jrIf := keepsRows_mkJrIf)
    (retIf := keepsRows_mkRetIf) (jpIf := keepsRows_mkJpIf) (callIf := keepsRows_mkCallIf) (pop := keepsRows_mkPop)
    (push := keepsRows_mkPush) (rst := keepsRows_mkRst) (alu := keepsRows_mkAlu) (aluImm := keepsRows_mkAluImm)
    (rot := keepsRows_mkRot) (bit := keepsRows_mkBit) (res := keepsRows_mkRes) (set := keepsRows_mkSet)
    (ld_atn16_SP' := keepsRows_ld_atn16_SP)
    (stop_n8' := fun _ => keepsRows_of_engine (fun _ => rfl) fun _ => ⟨_, _, _, _, rfl⟩)
    (jr_e8' := fun e => keepsRows_of_setPC (target := fun s => s.pc + sext16 e) (by simp [writesPC]) fun _ => rfl)
    (jp_n16' := fun n => keepsRows_of_setPC (target := fun _ => n) (by simp [writesPC]) fun _ => rfl)
    (call_n16' := keepsRows_call_n16)
    (ldh_atn8_A' := fun n => keepsRows_of_storeA (addr := fun _ => ldhAddr n) fun _ => rfl)
    (add_SP_e8' := keepsRows_add_SP_e8)
    (ld_atn16_A' := fun n => keepsRows_of_storeA (addr := fun _ => n) fun _ => rfl)
    (ldh_A_atn8' := fun n => keepsRows_of_loadA (addr := fun _ => ldhAddr n) (by simp [writesA]) fun _ => rfl)
    (ld_HL_SPe8' := keepsRows_ld_HL_SPe8)
    (ld_A_atn16' := fun n => keepsRows_of_loadA (addr := fun _ => n) (by simp [writesA]) fun _ => rfl)
    (nop' := keepsRows_of_engine (fun _ => rfl) fun _ => ⟨_, _, _, _, rfl⟩)
    (rlca' := keepsRows_of_rotateA (k := .rlc) (fun _ => rfl) (by simp [writesA]) (by simp [writesFlags]))
    (rrca' := keepsRows_of_rotateA (k := .rrc) (fun _ => rfl) (by simp [writesA]) (by simp [writesFlags]))
    (rla' := keepsRows_of_rotateA (k := .rl) (fun _ => rfl) (by simp [writesA]) (by simp [writesFlags]))
    (rra' := keepsRows_of_rotateA (k := .rr) (fun _ => rfl) (by simp [writesA]) (by simp [writesFlags]))
    (daa' := keepsRows_daa) (cpl' := keepsRows_cpl) (scf' := keepsRows_scf) (ccf' := keepsRows_ccf)
    (halt' := keepsRows_of_engine (fun _ => rfl) fun _ => ⟨_, _, _, _, rfl⟩)
    (ret' := keepsRows_ret) (reti' := keepsRows_reti)
    (ldh_atC_A' := keepsRows_of_storeA (addr := fun s => ldhAddr s.C) fun _ => rfl)
    (jp_HL' := keepsRows_of_setPC (target := State.hl) (by simp [writesPC]) fun _ => rfl)
    (ldh_A_atC' := keepsRows_of_loadA (addr := fun s => ldhAddr s.C) (by simp [writesA]) fun _ => rfl)
    (di' := keepsRows_of_engine (fun _ => rfl) fun _ => ⟨_, _, _, _, rfl⟩)
    (ld_SP_HL' := keepsRows_ld_SP_HL)
    (ei' := keepsRows_of_engine (fun _ => rfl) fun _ => ⟨_, _, _, _, rfl⟩)
    (illegal := fun i ⟨_, _, he⟩ s t h => nomatch (he s).symm.trans h)
    i hw

/-- Settles O59: what an instruction writes stands in its rows (`keepsRows`), so a register whose row does not list it is
kept. -/
theorem registerWriters : Obligations.RegisterWriters := by
  unfold Obligations.RegisterWriters
  intro i s t hw h
  have hr := (keepsRows hw s t h).regs
  exact ⟨hr .a, hr .f, fun h1 h2 => hr .b (not_or.2 ⟨h1, h2⟩), fun h1 h2 => hr .c (not_or.2 ⟨h1, h2⟩),
    fun h1 h2 => hr .d (not_or.2 ⟨h1, h2⟩), fun h1 h2 => hr .e (not_or.2 ⟨h1, h2⟩),
    fun h1 h2 h3 => hr .h (not_or.2 ⟨h1, not_or.2 ⟨h2, h3⟩⟩), fun h1 h2 h3 => hr .l (not_or.2 ⟨h1, not_or.2 ⟨h2, h3⟩⟩),
    hr .sp, hr .pc⟩

end Sys2Proof.Machine
end

section
/-! SUPPORT. The decoder answers instructions of the machine alone (30_encoding.md R127, R133), so every step runs one,
and no step breaks the invariant. -/

namespace Sys2Proof

/-! ### The forms are well formed -/

theorem wellFormed_mkLd (dst src : R8) : WellFormed (mkLd dst src) := by cases dst <;> cases src <;> rfl
theorem wellFormed_mkLdImm (dst : R8) (n : Byte) : WellFormed (mkLdImm dst n) := by cases dst <;> rfl
theorem wellFormed_mkLdR16 (rp : R16) (n : Word) : WellFormed (mkLdR16 rp n) := by cases rp <;> rfl
theorem wellFormed_mkStoreMem (m : R16Mem) : WellFormed (mkStoreMem m) := by cases m <;> rfl
theorem wellFormed_mkLoadMem (m : R16Mem) : WellFormed (mkLoadMem m) := by cases m <;> rfl
theorem wellFormed_mkIncR16 (rp : R16) : WellFormed (mkIncR16 rp) := by cases rp <;> rfl
theorem wellFormed_mkDecR16 (rp : R16) : WellFormed (mkDecR16 rp) := by cases rp <;> rfl
theorem wellFormed_mkAddHL (rp : R16) : WellFormed (mkAddHL rp) := by cases rp <;> rfl
theorem wellFormed_mkInc8 (x : R8) : WellFormed (mkInc8 x) := by cases x <;> rfl
theorem wellFormed_mkDec8 (x : R8) : WellFormed (mkDec8 x) := by cases x <;> rfl
theorem wellFormed_mkJrIf (cc : Cond) (e : Byte) : WellFormed (mkJrIf cc e) := by cases cc <;> rfl
theorem wellFormed_mkRetIf (cc : Cond) : WellFormed (mkRetIf cc) := by cases cc <;> rfl
theorem wellFormed_mkJpIf (cc : Cond) (n : Word) : WellFormed (mkJpIf cc n) := by cases cc <;> rfl
theorem wellFormed_mkCallIf (cc : Cond) (n : Word) : WellFormed (mkCallIf cc n) := by cases cc <;> rfl
theorem wellFormed_mkPop (rp : R16Stk) : WellFormed (mkPop rp) := by cases rp <;> rfl
theorem wellFormed_mkPush (rp : R16Stk) : WellFormed (mkPush rp) := by cases rp <;> rfl
theorem wellFormed_mkRst (t : Ix3) : WellFormed (mkRst t) := by cases t <;> rfl
theorem wellFormed_mkAlu (op : AluOp) (x : R8) : WellFormed (mkAlu op x) := by cases op <;> cases x <;> rfl
theorem wellFormed_mkAluImm (op : AluOp) (n : Byte) : WellFormed (mkAluImm op n) := by cases op <;> rfl
theorem wellFormed_mkRot (k : RotOp) (x : R8) : WellFormed (mkRot k x) := by cases k <;> cases x <;> rfl
theorem wellFormed_mkBit (b : Ix3) (x : R8) : WellFormed (mkBit b x) := by cases b <;> cases x <;> rfl
theorem wellFormed_mkRes (b : Ix3) (x : R8) : WellFormed (mkRes b x) := by cases b <;> cases x <;> rfl
theorem wellFormed_mkSet (b : Ix3) (x : R8) : WellFormed (mkSet b x) := by cases b <;> cases x <;> rfl

/-! ### So is what the decoder answers -/

theorem decodeCB_wellFormed (op2 : Byte) : WellFormed (decodeCB op2) := by
  unfold decodeCB
  split
  · exact wellFormed_mkRot _ _
  · exact wellFormed_mkBit _ _
  · exact wellFormed_mkRes _ _
  · exact wellFormed_mkSet _ _

theorem ite_wellFormed {c : Prop} [Decidable c] {i j : Instr} (hi : WellFormed i) (hj : WellFormed j) :
    WellFormed (if c then i else j) := by split <;> assumption

theorem decodeBlock0_wellFormed (op b1 b2 : Byte) : WellFormed (decodeBlock0 op b1 b2) := by
  unfold decodeBlock0
  dsimp only
  split
  · split
    case h_5 => exact wellFormed_mkJrIf _ _
    all_goals rfl
  · exact ite_wellFormed (wellFormed_mkLdR16 _ _) (wellFormed_mkAddHL _)
  · exact ite_wellFormed (wellFormed_mkStoreMem _) (wellFormed_mkLoadMem _)
  · exact ite_wellFormed (wellFormed_mkIncR16 _) (wellFormed_mkDecR16 _)
  · exact wellFormed_mkInc8 _
  · exact wellFormed_mkDec8 _
  · exact wellFormed_mkLdImm _ _
  · split <;> rfl

theorem decodeBlock3_wellFormed (op b1 b2 : Byte) : WellFormed (decodeBlock3 op b1 b2) := by
  unfold decodeBlock3
  dsimp only
  split
  · split
    case h_5 => exact wellFormed_mkRetIf _
    all_goals rfl
  · exact ite_wellFormed (wellFormed_mkPop _) (by split <;> rfl)
  · split
    case h_5 => exact wellFormed_mkJpIf _ _
    all_goals rfl
  · split
    case h_2 => exact decodeCB_wellFormed b1
    all_goals rfl
  · split
    case h_5 => exact wellFormed_mkCallIf _ _
    all_goals rfl
  · exact ite_wellFormed (wellFormed_mkPush _) (by split <;> rfl)
  · exact wellFormed_mkAluImm _ _
  · exact wellFormed_mkRst _

theorem decodeInstr_wellFormed (op b1 b2 : Byte) : WellFormed (decodeInstr op b1 b2) := by
  unfold decodeInstr
  split
  · exact decodeBlock0_wellFormed op b1 b2
  · exact wellFormed_mkLd _ _
  · exact wellFormed_mkAlu _ _
  · exact decodeBlock3_wellFormed op b1 b2

namespace Machine

/-! ### A step keeps the invariant -/

theorem fetchInstr_wellFormed {s t : State} {i : Instr} (h : fetchInstr s = .ok (i, t)) : WellFormed i := by
  obtain ⟨⟨op, s1⟩, -, h⟩ := bind_eq_ok.1 h
  obtain ⟨⟨rest, s2⟩, -, h⟩ := bind_eq_ok.1 h
  cases h
  exact decodeInstr_wellFormed _ _ _

theorem fetchInstr_keeps {s t : State} {i : Instr} (h : fetchInstr s = .ok (i, t)) (hs : StateInv s) : StateInv t := by
  rw [fetchInstr_ok h]
  exact hs.of_eq rfl rfl

theorem promoteEi_keeps {b : Bool} {s : State} (hs : StateInv s) : StateInv (promoteEi b s) := by
  rcases promoteEi_cases b s with h | h <;> rw [h]
  · exact hs
  · exact hs.of_eq rfl rfl

/-- Settles O4: an idle step changes the count alone; an interrupt entry and an instruction write AF with F[3:0] zero,
and storage through the bus alone. -/
theorem stepKeepsInvariant : Obligations.StepKeepsInvariant := by
  unfold Obligations.StepKeepsInvariant
  intro s t hs h
  have hrun : StateInv (s.setHalted false) := hs.of_eq rfl rfl
  rcases step_cases h with ⟨p, -, -, -, rfl⟩ | ⟨p, -, -, -, he⟩ | ⟨-, i, s1, u, hf, he, rfl⟩
  · exact hs.of_eq rfl rfl
  · exact interruptEntry_keeps he hrun
  · exact promoteEi_keeps ((keepsRows (fetchInstr_wellFormed hf) s1 u he).inv (fetchInstr_keeps hf hrun))

end Machine

end Sys2Proof
end

section
/-! SUPPORT. The frame of one bus access (10_state.md R49; 20_memory.md R90). -/

namespace Sys2Proof.Machine

/-- A `write` that is not of an open device leaves the open devices alone. -/
theorem busWrite_closed {a : Word} {v : Byte} {s t : State} (hx : s.closed a) (h : busWrite a v s = .ok t) :
    t.ext = s.ext := by
  unfold busWrite at h
  split at h
  · cases h; rfl
  · cases h; rfl
  · cases h; rfl
  · split at h <;> cases h; rfl
  · contradiction

/-- Settles O21: what an accepted access can do is said once by `busRead_ok` and `busWrite_frame`. -/
theorem busAccessFrame : Obligations.BusAccessFrame := by
  unfold Obligations.BusAccessFrame
  refine ⟨fun a s t v h => ⟨busRead_ok h, fun hx => busRead_closed hx h⟩, fun a s t v h => ?_⟩
  obtain ⟨ht, hk⟩ := busWrite_frame h
  exact ⟨ht, fun hx => busWrite_closed hx h, hk⟩

end Sys2Proof.Machine
end

section
/-! SUPPORT. The register file: construction, the halves, the flags, take-and-modify (10_state.md R31 to R36, R51). -/

namespace Sys2Proof.Machine

/-! ### After construction -/

/-- Settles O1: every register is a zero word, and so are its halves and flags. -/
theorem powerOnState : Obligations.PowerOnState := by
  unfold Obligations.PowerOnState
  have hhi : hiByte 0x0000 = 0x00 := by decide
  have hlo : loByte 0x0000 = 0x00 := by decide
  have hF : loByte 0x0000 &&& 0xF0 = 0x00 := by decide
  have hAF : (0x0000 : Word) &&& 0xFFF0 = 0x0000 := by decide
  have hflag : ∀ i, (loByte 0x0000 &&& 0xF0).getLsbD i = false := fun i => by rw [hF]; exact BitVec.getLsbD_zero
  refine ⟨fun mem cart io video wramx ext => ⟨fun p => ?_, ⟨hhi, hF, hhi, hlo, hhi, hlo, hhi, hlo⟩,
    ⟨hflag 7, hflag 6, hflag 5, hflag 4⟩, rfl, rfl, rfl, rfl, rfl, rfl, rfl, rfl, rfl⟩, ⟨_, _, _, _, _, _, rfl⟩⟩
  cases p with
  | af => exact hAF
  | _ => rfl

theorem stateInv_powerOn {mem : Memory} {cart : CartDevice} {io : IoDevice} {video : VideoAccess} {wramx : WramxBank}
    {ext : Nat} (hwf : mem.wf = true) (hst : (State.powerOn mem cart io video wramx ext).storageOk = true) :
    StateInv (State.powerOn mem cart io video wramx ext) := by
  have hflags : ((0x0000 : Word) &&& 0x000F == 0) = true := by decide
  exact ⟨hwf, hst, hflags⟩

/-- Settles O3: reset is the construction with nothing listed in memory. -/
theorem resetMeetsInvariant : Obligations.ResetMeetsInvariant := by
  unfold Obligations.ResetMeetsInvariant
  exact ⟨stateInv_powerOn rfl rfl, fun _ _ _ _ _ _ => stateInv_powerOn⟩

/-! ### Halves as numbers -/

theorem hiByte_toNat (w : Word) : (hiByte w).toNat = w.toNat / 256 := by
  have hw : w.toNat < 65536 := w.isLt
  rw [hiByte, BitVec.extractLsb'_toNat, Nat.shiftRight_eq_div_pow]
  omega

theorem loByte_toNat (w : Word) : (loByte w).toNat = w.toNat % 256 := by
  rw [loByte, BitVec.extractLsb'_toNat, Nat.shiftRight_zero]

theorem State.A_eq_hiByte_AF (s : State) : s.A = hiByte s.AF := by
  rw [State.A, State.AF, hiByte_and, show hiByte 0xFFF0 = BitVec.allOnes 8 from rfl, BitVec.and_allOnes]

theorem State.F_eq_loByte_AF (s : State) : s.F = loByte s.AF := by
  rw [State.F, State.AF, loByte_and]; rfl

theorem State.join_A_F (s : State) : join s.A s.F = s.AF := by
  rw [s.A_eq_hiByte_AF, s.F_eq_loByte_AF, join_hiByte_loByte]

/-- Settles O22: the halves are the quotient and remainder by 256, and each write of a half is read back. -/
theorem registerHalves : Obligations.RegisterHalves := by
  unfold Obligations.RegisterHalves
  refine ⟨fun s => ?_, fun s v => ?_, fun s v => ?_⟩
  · rw [s.A_eq_hiByte_AF, s.F_eq_loByte_AF]
    exact ⟨hiByte_toNat _, loByte_toNat _, hiByte_toNat _, loByte_toNat _, hiByte_toNat _, loByte_toNat _,
      hiByte_toNat _, loByte_toNat _⟩
  · exact ⟨⟨State.setA_A s v, State.setA_F s v, rfl⟩, ⟨State.setF_F s v, State.setF_A s v, rfl⟩,
      ⟨hiByte_join _ _, loByte_join _ _, rfl⟩, ⟨loByte_join _ _, hiByte_join _ _, rfl⟩,
      ⟨hiByte_join _ _, loByte_join _ _, rfl⟩, ⟨loByte_join _ _, hiByte_join _ _, rfl⟩,
      ⟨hiByte_join _ _, loByte_join _ _, rfl⟩, ⟨loByte_join _ _, hiByte_join _ _, rfl⟩⟩
  · exact ⟨join_hiByte_loByte v, join_hiByte_loByte v, join_hiByte_loByte v⟩

/-! ### F and AF -/

/-- Clearing bits 3..0 rounds down to a multiple of 16. -/
theorem and_F0_toNat (b : Byte) : (b &&& 0xF0).toNat = b.toNat / 16 * 16 := by
  revert b; decide

theorem State.F_toNat (s : State) : s.F.toNat = s.af.toNat % 256 / 16 * 16 := by
  rw [State.F, and_F0_toNat, loByte_toNat]

theorem State.AF_toNat (s : State) : s.AF.toNat = s.af.toNat / 16 * 16 := by
  have hA : s.A.toNat = s.af.toNat / 256 := hiByte_toNat s.af
  have hA' : s.A.toNat = s.AF.toNat / 256 := by rw [s.A_eq_hiByte_AF, hiByte_toNat]
  have hF : s.F.toNat = s.AF.toNat % 256 := by rw [s.F_eq_loByte_AF, loByte_toNat]
  have hF' := s.F_toNat
  omega

theorem State.setAF_AF (s : State) (v : Word) : (s.setAF v).AF = v &&& 0xFFF0 := by
  rw [State.AF, State.setAF_af, BitVec.and_assoc, BitVec.and_self]

/-- F with some bits cleared and others of F[7:4] set is stored as it is. -/
theorem State.setF_masked_F (s : State) (m : Byte) {b : Byte} (hb : b &&& 0xF0 = b) :
    (s.setF ((s.F &&& m) ||| b)).F = (s.F &&& m) ||| b := by
  have hF : s.F &&& 0xF0 = s.F := by rw [State.F, BitVec.and_assoc, BitVec.and_self]
  rw [State.setF_F, BitVec.and_or_distrib_right, hb, BitVec.and_assoc, BitVec.and_comm m, ← BitVec.and_assoc, hF]

/-- Settles O23: F and AF read as multiples of 16, and a flag set is a write of F with one bit of F[7:4] replaced. -/
theorem flagBits : Obligations.FlagBits := by
  unfold Obligations.FlagBits
  refine ⟨fun s => ⟨s.F_toNat, s.AF_toNat, rfl, rfl, rfl, rfl⟩, fun s v => ⟨?_, s.setAF_AF v, rfl⟩,
    fun s v => ⟨State.setF_F s v, State.setF_A s v, rfl⟩, fun s b => ?_⟩
  · rw [State.join_A_F, State.setAF_AF]
  · have hbit : ∀ x : Byte, x &&& 0xF0 = x → (if b then x else 0#8) &&& 0xF0 = if b then x else 0#8 := by
      intro x hx
      cases b with
      | true => exact hx
      | false => simp
    exact ⟨⟨s.setF_masked_F _ (hbit _ rfl), s.setFZ_A b⟩, ⟨s.setF_masked_F _ (hbit _ rfl), s.setFN_A b⟩,
      ⟨s.setF_masked_F _ (hbit _ rfl), s.setFH_A b⟩, ⟨s.setF_masked_F _ (hbit _ rfl), s.setFC_A b⟩⟩

/-! ### A pair after a write -/

theorem State.pair_setPair_same (s : State) (p : Pair) (v : Word) :
    (s.setPair p v).pair p = if p = .af then v &&& 0xFFF0 else v := by
  cases p with
  | af => exact s.setAF_AF v
  | _ => rfl

theorem State.pair_setPair_other (s : State) {p q : Pair} (h : q ≠ p) (v : Word) :
    (s.setPair p v).pair q = s.pair q := by
  cases p <;> cases q <;> first | rfl | contradiction

theorem add_one_eq_ofNat (w : Word) : w + 1 = BitVec.ofNat 16 (w.toNat + 1) := by
  apply BitVec.eq_of_toNat_eq; simp

theorem sub_one_eq_ofNat (w : Word) : w - 1 = BitVec.ofNat 16 (w.toNat + 0xFFFF) := by
  apply BitVec.eq_of_toNat_eq; rw [BitVec.toNat_sub]; simp [Nat.add_comm]

/-- Settles O24: take-and-modify is a write of the pair (`pair_setPair_same`, `pair_setPair_other`). -/
theorem takeAndModify : Obligations.TakeAndModify := by
  unfold Obligations.TakeAndModify
  refine ⟨fun p s => ⟨rfl, rfl, ?_, ?_, fun q hq => ⟨s.pair_setPair_other hq _, s.pair_setPair_other hq _⟩⟩,
    fun p s hp => ⟨fun h => ?_, fun h => ?_⟩⟩
  · rw [← add_one_eq_ofNat]; exact s.pair_setPair_same p _
  · rw [← sub_one_eq_ofNat]; exact s.pair_setPair_same p _
  · rw [takeAndIncrement, State.pair_setPair_same, if_neg hp, h]; rfl
  · rw [takeAndDecrement, State.pair_setPair_same, if_neg hp, h]; rfl

end Sys2Proof.Machine
end

section
/-! SUPPORT. What an access answers for each kind of device (20_memory.md R77 to R85), and the statements about the map
and the devices. -/

namespace Sys2Proof.Machine

/-! ### The map -/

/-- The addresses of an entry, from its base up to but not including the end. -/
def MapEntry.range (e : MapEntry) : MMDevice × Nat × Nat := (e.device, e.base, e.base + e.size)

/-- Settles O15: dispatch gives the entry an address lies in (`dispatch_of_mem`), and no other entry holds the address. -/
theorem mapPartition : Obligations.MapPartition := by
  unfold Obligations.MapPartition
  refine ⟨fun r hr a hb ht => ?_, fun a => ?_⟩
  · obtain ⟨e, he, rfl⟩ := List.mem_map.1 (show r ∈ memoryMap.map MapEntry.range from hr)
    exact dispatch_of_mem he hb ht
  · obtain ⟨e, he, hb, ht⟩ := exists_entry a
    refine ⟨e, ⟨he, hb, ht⟩, fun f ⟨hf, hfb, hft⟩ => Option.some.inj ?_⟩
    rw [← firstEntry_of_mem memoryMap_disjoint hf hfb hft, firstEntry_of_mem memoryMap_disjoint he hb ht]

/-! ### The three accesses, by the kind of the device -/

theorem bus_of_ram {a : Word} {s : State} (h : s.accessOf a = .ram) :
    busRead a s = .ok (s.kept a, s) ∧ busPeek a s = .ok (s.kept a) ∧
      ∀ v, busWrite a v s = .ok { s with mem := s.mem.write (s.keyOf a) v } := by
  simp [busRead, busPeek, busWrite, h]

theorem bus_of_rom {a : Word} {s : State} (h : s.accessOf a = .rom) :
    busRead a s = .ok (s.kept a, s) ∧ busPeek a s = .ok (s.kept a) ∧ ∀ v, busWrite a v s = .ok s := by
  simp [busRead, busPeek, busWrite, h]

theorem bus_of_sentinel {a : Word} {s : State} (h : s.accessOf a = .sentinel) :
    busRead a s = .ok (Config.unusableSentinel, s) ∧ busPeek a s = .ok Config.unusableSentinel ∧
      ∀ v, busWrite a v s = .ok s := by
  simp [busRead, busPeek, busWrite, h]

/-- Which devices are attached decides how an address answers. -/
theorem accessOf_congr {s t : State} (hc : t.cart = s.cart) (hi : t.io = s.io) (hv : t.video = s.video) (a : Word) :
    t.accessOf a = s.accessOf a := by
  simp only [State.accessOf, State.access, hc, hi, hv]

/-- What a read depends on: how the address answers, the byte kept there and, behind an open device, the devices' state. -/
theorem readByte_congr {b : Word} {s t : State} (ha : t.accessOf b = s.accessOf b) (hk : t.kept b = s.kept b)
    (he : ¬ s.closed b → t.ext = s.ext) : readByte b t = readByte b s := by
  unfold readByte busRead
  rw [ha, hk]
  cases hx : s.accessOf b with
  | external =>
    rw [he fun hc => hc hx]
    dsimp only
    cases Config.extRead s.ext b (s.kept b) <;> rfl
  | guarded ks => by_cases hr : AccessKind.read ∈ ks <;> simp [hr]
  | _ => rfl

/-- The byte kept after a write to storage is the byte written. -/
theorem kept_write {s : State} (hm : s.mem.wf = true) (a : Word) (v : Byte) :
    ({ s with mem := s.mem.write (s.keyOf a) v } : State).kept a = v := Memory.read_write_same hm

/-- A write to storage leaves every other byte, the echo of a byte being that byte (20_memory.md R79). -/
theorem kept_write_other {s : State} {a b : Word} (h : echoFold b ≠ echoFold a) (v : Byte) :
    ({ s with mem := s.mem.write (s.keyOf a) v } : State).kept b = s.kept b := by
  refine Memory.read_write_other fun hk => h ?_
  rw [← keyOf_mod s b, ← keyOf_mod s a]
  exact congrArg (· % 0x10000) hk

/-- Plain storage keeps the byte written, and a write to it is seen at no other byte. -/
theorem ram_storesByte {a : Word} {s : State} (h : s.accessOf a = .ram) (hm : s.mem.wf = true) (v : Byte) :
    ∃ t, busWrite a v s = .ok t ∧ t = { s with mem := t.mem } ∧ busRead a t = .ok (v, t) ∧
      ∀ b : Word, echoFold b ≠ echoFold a → readByte b t = readByte b s := by
  have hr := (bus_of_ram (s := { s with mem := s.mem.write (s.keyOf a) v }) h).1
  rw [kept_write hm] at hr
  exact ⟨_, (bus_of_ram h).2.2 v, rfl, hr, fun b hb => readByte_congr rfl (kept_write_other hb v) fun _ => rfl⟩

/-! ### Where an address leads -/

/-- A byte that dispatch does not send to the echo window stands where dispatch sends it (20_memory.md R79). -/
theorem resolve_of_ne_echo {a : Word} (h : (dispatch a).1 ≠ .echoRam) : resolve a = dispatch a := by
  unfold resolve
  split
  · next o ho => rw [ho] at h; contradiction
  · rfl

/-- The byte behind the echo window is plain storage (20_memory.md R79, R82). -/
theorem access_of_echo {a : Word} (h : 0xE000 ≤ a.toNat ∧ a.toNat < 0xFE00) (s : State) (b : Word) :
    s.access (resolve a).1 b = .ram := by
  rw [resolve_of_echo h]
  split <;> rfl

/-- The map entry of an address decides its device and offset, outside the echo window. -/
theorem resolve_of_mem {d : MMDevice} {b z : Nat} (he : ⟨d, b, z⟩ ∈ memoryMap) (hd : d ≠ .echoRam) {a : Word}
    (hb : b ≤ a.toNat) (ht : a.toNat < b + z) : resolve a = (d, a.toNat - b) := by
  have hr := dispatch_of_mem he hb ht
  rw [resolve_of_ne_echo (by rw [hr]; exact hd), hr]

/-- The image of the reference cartridge is kept at its bus addresses and is read only (20_memory.md R83). -/
theorem accessOf_keyOf_of_flatRom {a : Word} {s : State} (hc : s.cart = .flat) (ha : a.toNat < 0x8000) :
    s.accessOf a = .rom ∧ s.keyOf a = a.toNat := by
  by_cases h : a.toNat < 0x4000
  · rw [State.accessOf, State.keyOf,
      resolve_of_mem (d := .romBank0) (z := 0x4000) (by decide) (by decide) (Nat.zero_le _) (by omega)]
    simp [State.access, State.storageKey, deviceBase, hc]
  · rw [State.accessOf, State.keyOf,
      resolve_of_mem (d := .romSwitchable) (b := 0x4000) (z := 0x4000) (by decide) (by decide) (by omega) (by omega)]
    simp only [State.access, State.storageKey, deviceBase, hc, true_and]
    omega

/-! ### The echo window -/

/-- The word with the number `0xE000 + k` lies in the echo window, 0x2000 above that with the number `0xC000 + k`. -/
theorem ofNat_in_echoWindow {k : Nat} (hk : k < 0x1E00) :
    (0xE000 ≤ (BitVec.ofNat 16 (0xE000 + k)).toNat ∧ (BitVec.ofNat 16 (0xE000 + k)).toNat < 0xFE00) ∧
      BitVec.ofNat 16 (0xE000 + k) - 0x2000 = BitVec.ofNat 16 (0xC000 + k) := by
  constructor
  · rw [BitVec.toNat_ofNat, Nat.mod_eq_of_lt (by omega)]; omega
  · apply BitVec.eq_of_toNat_eq
    have h2 : (0x2000 : Word).toNat = 0x2000 := rfl
    rw [BitVec.toNat_sub, h2, BitVec.toNat_ofNat, BitVec.toNat_ofNat]
    omega

/-- Both windows reach one byte of plain storage (20_memory.md R79). -/
theorem accessOf_keyOf_of_echo {a : Word} (h : 0xE000 ≤ a.toNat ∧ a.toNat < 0xFE00) (s : State) :
    s.accessOf a = .ram ∧ s.accessOf (a - 0x2000) = .ram ∧ s.keyOf a = s.keyOf (a - 0x2000) := by
  refine ⟨access_of_echo h s a, ?_, ?_⟩
  · rw [State.accessOf, ← resolve_echo h]; exact access_of_echo h s _
  · rw [State.keyOf, State.keyOf, resolve_echo h]

theorem bus_of_echo {a : Word} (h : 0xE000 ≤ a.toNat ∧ a.toNat < 0xFE00) (s : State) :
    busRead a s = busRead (a - 0x2000) s ∧ busPeek a s = busPeek (a - 0x2000) s ∧
      ∀ v, busWrite a v s = busWrite (a - 0x2000) v s := by
  obtain ⟨ha, hb, hk⟩ := accessOf_keyOf_of_echo h s
  obtain ⟨hr, hp, hw⟩ := bus_of_ram ha
  obtain ⟨hr', hp', hw'⟩ := bus_of_ram hb
  rw [hr, hr', hp, hp', State.kept, State.kept, hk]
  exact ⟨rfl, rfl, fun v => by rw [hw, hw', hk]⟩

/-- A byte of plain storage reads as the byte last written. -/
theorem ram_readBack {a : Word} {v : Byte} {s t : State} (h : s.accessOf a = .ram) (hm : s.mem.wf = true)
    (hw : busWrite a v s = .ok t) : busRead a t = .ok (v, t) := by
  obtain ⟨u, hu, -, hr, -⟩ := ram_storesByte h hm v
  cases hu.symm.trans hw
  exact hr

/-- Settles O16: the two windows reach one byte (`bus_of_echo`), and that byte is plain storage. -/
theorem echoIsWorkRam : Obligations.EchoIsWorkRam := by
  unfold Obligations.EchoIsWorkRam
  refine ⟨fun a s hb ht => bus_of_echo ⟨hb, ht⟩ s, fun k s t v hk hm => ?_⟩
  obtain ⟨he, hc⟩ := ofNat_in_echoWindow hk
  obtain ⟨hram, hram', -⟩ := accessOf_keyOf_of_echo he s
  have hr := (bus_of_echo he t).1
  rw [hc] at hr hram'
  exact ⟨fun h => by rw [← hr]; exact ram_readBack hram hm h, fun h => by rw [hr]; exact ram_readBack hram' hm h⟩

/-! ### The other devices -/

/-- Settles O17: the device behind the window answers with the sentinel (`bus_of_sentinel`). -/
theorem unusableWindow : Obligations.UnusableWindow := by
  unfold Obligations.UnusableWindow
  intro a s v hb ht
  have hx : s.accessOf a = .sentinel := by rw [State.accessOf, resolve_unusable a ⟨hb, ht⟩]; rfl
  obtain ⟨hr, hp, hw⟩ := bus_of_sentinel hx
  exact ⟨hr, hp, hw v⟩

/-- The RAM-backed devices are plain storage under the reference video restriction (20_memory.md R82). -/
theorem access_of_ramDevice {s : State} (hv : s.video = .unrestricted) {d : MMDevice}
    (hd : d ∈ [MMDevice.videoRam, .workRam0, .workRamX, .oam, .highRam, .interruptEnable]) (a : Word) :
    s.access d a = .ram := by
  simp only [List.mem_cons, List.not_mem_nil, or_false] at hd
  rcases hd with rfl | rfl | rfl | rfl | rfl | rfl <;> simp [State.access, hv]

/-- Settles O18: each of the six devices is plain storage, and plain storage stores bytes (`ram_storesByte`). -/
theorem ramStoresBytes : Obligations.RamStoresBytes := by
  unfold Obligations.RamStoresBytes
  intro a s v hv hm hd
  have hx : s.accessOf a = .ram := by
    rw [State.accessOf, resolve_of_ne_echo fun h => absurd (h ▸ hd) (by decide)]
    exact access_of_ramDevice hv hd a
  exact ⟨⟨_, (bus_of_ram hx).1, (bus_of_ram hx).2.1⟩, ram_storesByte hx hm v⟩

/-- Settles O19: the image is read only (`accessOf_keyOf_of_flatRom`); the RAM of the cartridge and the I/O block are
plain storage. -/
theorem referenceCartAndIo : Obligations.ReferenceCartAndIo := by
  unfold Obligations.ReferenceCartAndIo
  refine ⟨fun a s v hc ha => ?_, fun a s v hm h => ?_⟩
  · obtain ⟨hx, hk⟩ := accessOf_keyOf_of_flatRom hc ha
    obtain ⟨hr, hp, hw⟩ := bus_of_rom hx
    rw [hr, hp, State.kept, hk]
    exact ⟨rfl, rfl, hw v⟩
  · have hx : s.accessOf a = .ram := by
      rcases h with ⟨hc, hb, ht⟩ | ⟨hi, hb, ht⟩
      · rw [State.accessOf, resolve_of_mem (d := .externalRam) (z := 0x2000) (by decide) (by decide) hb ht]
        simp only [State.access, hc]
      · rw [State.accessOf, resolve_of_mem (d := .ioRegisters) (z := 0x80) (by decide) (by decide) hb ht]
        simp only [State.access, hi]
    obtain ⟨t, hw, ht, hr, -⟩ := ram_storesByte hx hm v
    exact ⟨⟨_, (bus_of_ram hx).1, (bus_of_ram hx).2.1⟩, t, hw, ht, hr⟩

/-! ### Peek and read -/

/-- A device is guarded only where the I/O block is the rejecting one (20_memory.md R85). -/
theorem accessOf_ne_guarded {s : State} (h : ∀ l, s.io ≠ .rejecting l) (a : Word) (ks : List AccessKind) :
    s.accessOf a ≠ .guarded ks := by
  unfold State.accessOf State.access
  cases (resolve a).1 with
  | ioRegisters =>
    cases hi : s.io with
    | rejecting l => exact absurd hi (h l)
    | _ => exact Access.noConfusion
  | romBank0 | romSwitchable | externalRam => cases s.cart <;> exact Access.noConfusion
  | videoRam | oam => cases s.video <;> exact Access.noConfusion
  | _ => exact Access.noConfusion

/-- Where both are accepted, a peek gives the byte a read gives (20_memory.md R77). -/
theorem busPeek_eq_busRead {a : Word} {s t : State} {v w : Byte} (hp : busPeek a s = .ok v)
    (hr : busRead a s = .ok (w, t)) : v = w := by
  unfold busPeek at hp
  unfold busRead at hr
  cases hx : s.accessOf a with
  | guarded ks =>
    simp only [hx] at hp hr
    split at hp <;> cases hp
    split at hr <;> cases hr
    rfl
  | external =>
    simp only [hx] at hp hr
    split at hr <;> cases hr
    next e he =>
    rw [he] at hp
    split at hp
    · cases hp
    · next h => cases h; cases hp; rfl
    · next h => cases h
  | _ => rw [hx] at hp hr; cases hp; cases hr; rfl

/-- Settles O20: the bytes agree for every device, and a device that rejects nothing answers both from one state. -/
theorem peekAgreesWithRead : Obligations.PeekAgreesWithRead := by
  unfold Obligations.PeekAgreesWithRead
  refine ⟨fun a s t v w => busPeek_eq_busRead, fun a s v hc hi => ?_⟩
  cases hx : s.accessOf a with
  | external => exact absurd hx hc
  | guarded ks => exact absurd hx (accessOf_ne_guarded hi a ks)
  | ram => rw [(bus_of_ram hx).1, (bus_of_ram hx).2.1]; simp
  | rom => rw [(bus_of_rom hx).1, (bus_of_rom hx).2.1]; simp
  | sentinel => rw [(bus_of_sentinel hx).1, (bus_of_sentinel hx).2.1]; simp

end Sys2Proof.Machine
end

section
/-! SUPPORT. What an instruction stores (20_memory.md R90): every meaning is followed once, as a chain of register writes
and accepted bus accesses, and what the chain leaves of storage and of the devices is read off it. -/

namespace Sys2Proof.Machine

/-! ### States reached by register writes, reads and writes to some addresses -/

/-- `t` has the storage of `s` but for the bytes of the addresses in `A`, in whatever bank, and the devices of `s`. -/
structure StoresWithin (A : Word → Prop) (s t : State) : Prop where
  mem : ∀ k : Nat, (∀ a, A a → k % 0x10000 ≠ echoFold a) → t.mem.read k = s.mem.read k
  devices : t.cart = s.cart ∧ t.io = s.io ∧ t.video = s.video ∧ t.wramx = s.wramx

/-! One rule per state operation. -/

namespace StoresWithin
variable {A : Word → Prop} {s t u : State}

theorem refl (A : Word → Prop) (s : State) : StoresWithin A s s := ⟨fun _ _ => rfl, rfl, rfl, rfl, rfl⟩

theorem trans (h : StoresWithin A s t) (h' : StoresWithin A t u) : StoresWithin A s u := by
  obtain ⟨hm, hc, hi, hv, hw⟩ := h
  obtain ⟨hm', hc', hi', hv', hw'⟩ := h'
  exact ⟨fun k hk => (hm' k hk).trans (hm k hk), hc'.trans hc, hi'.trans hi, hv'.trans hv, hw'.trans hw⟩

/-- A write of registers and engine fields leaves the bus as it is. -/
theorem core (h : StoresWithin A s t) (hu : u = t.withCore u) : StoresWithin A s u :=
  h.trans (by rw [hu]; exact ⟨fun _ _ => rfl, rfl, rfl, rfl, rfl⟩)

/-- Open devices may change at every access. -/
theorem setExt (h : StoresWithin A s t) (hu : u = { t with ext := u.ext }) : StoresWithin A s u :=
  h.trans (by rw [hu]; exact ⟨fun _ _ => rfl, rfl, rfl, rfl, rfl⟩)

theorem busRead {a : Word} {v : Byte} (h : StoresWithin A s t) (hr : busRead a t = .ok (v, u)) : StoresWithin A s u :=
  h.setExt (busRead_ok hr)

theorem r8get {x : R8} {v : Byte} (h : StoresWithin A s t) (hr : r8get x t = .ok (v, u)) : StoresWithin A s u :=
  h.setExt (r8get_ok hr)

theorem pop16 {v : Word} (h : StoresWithin A s t) (hr : pop16 t = .ok (v, u)) : StoresWithin A s u :=
  (h.setExt (u := { t with ext := u.ext }) rfl).core (by rw [pop16_ok hr]; rfl)

theorem busWrite {a : Word} {v : Byte} (h : StoresWithin A s t) (ha : A a) (hr : busWrite a v t = .ok u) :
    StoresWithin A s u := by
  obtain ⟨hu, hk⟩ := busWrite_frame hr
  refine h.trans ⟨fun k hA => hk k (hA a ha), ?_⟩
  rw [hu]
  exact ⟨rfl, rfl, rfl, rfl⟩

theorem r8set {x : R8} {v : Byte} (h : StoresWithin A s t) (ha : x = .atHL → A t.hl) (hr : r8set x v t = .ok u) :
    StoresWithin A s u := by
  cases x with
  | atHL => exact h.busWrite (ha rfl) hr
  | _ => cases hr; exact h.core rfl

theorem push16 {v : Word} (h : StoresWithin A s t) (ha : A (t.sp - 1) ∧ A (t.sp - 2)) (hr : push16 v t = .ok u) :
    StoresWithin A s u := by
  obtain ⟨u', hp, rfl⟩ := push16_ok hr
  obtain ⟨t1, h1, h2⟩ := bind_eq_ok.1 hp
  exact ((h.busWrite ha.1 h1).busWrite ha.2 h2).core rfl

/-- A push and then a write of registers. -/
theorem pushThen {v : Word} {g : State → State}
    (ha : A (s.sp - 1) ∧ A (s.sp - 2)) (hg : ∀ u, g u = u.withCore (g u))
    (h : (Machine.push16 v s >>= fun u => .ok (g u)) = .ok t) : StoresWithin A s t := by
  obtain ⟨u, h1, h⟩ := bind_eq_ok.1 h
  cases h
  exact ((refl _ s).push16 ha h1).core (hg u)

/-- A pop and then a write of registers. -/
theorem popThen {g : Word × State → State}
    (hg : ∀ p, g p = p.2.withCore (g p))
    (h : (Machine.pop16 s >>= fun p => .ok (g p)) = .ok t) : StoresWithin A s t := by
  obtain ⟨p, h1, h⟩ := bind_eq_ok.1 h
  cases h
  exact ((refl _ s).pop16 h1).core (hg p)

end StoresWithin

/-! ### The shapes of the meanings -/

/-- `i` changes storage only where it stores, and no device. -/
def StoresFramed (i : Instr) : Prop := ∀ s t, exec i s = .next t → StoresWithin (storesAt i s) s t

section Shapes
variable {i : Instr}

/-- What `exec` calls for `i` decides. -/
theorem StoresFramed.of_meaning {f : State → Except Fault State} (he : ∀ s, exec i s = outcome (f s))
    (hf : ∀ s t, f s = .ok t → StoresWithin (storesAt i s) s t) : StoresFramed i :=
  fun s t h => hf s t (outcome_eq_next.1 (he s ▸ h))

/-- A meaning without an access. -/
theorem StoresFramed.of_core {g : State → State} (he : ∀ s, exec i s = outcome (.ok (g s)))
    (hg : ∀ s, g s = s.withCore (g s)) : StoresFramed i :=
  .of_meaning he fun s t h => by
    cases h
    exact (StoresWithin.refl _ s).core (hg s)

/-- A meaning that takes one of two ways by a condition and makes no access. -/
theorem StoresFramed.of_core_if {c : State → Bool} {g g' : State → State}
    (he : ∀ s, exec i s = outcome (if c s then .ok (g s) else .ok (g' s)))
    (hg : ∀ s, g s = s.withCore (g s)) (hg' : ∀ s, g' s = s.withCore (g' s)) : StoresFramed i :=
  .of_core (g := fun s => if c s then g s else g' s) (fun s => by rw [he s]; split <;> rfl) fun s => by
    split
    · exact hg s
    · exact hg' s

/-- A meaning that reads one byte at an address and then writes registers. -/
theorem StoresFramed.of_busRead {addr : State → Word} {s0 : State → State} {g : Byte × State → State}
    (he : ∀ s, exec i s = outcome (busRead (addr s) (s0 s) >>= fun p => .ok (g p)))
    (h0 : ∀ s, s0 s = s.withCore (s0 s)) (hg : ∀ p, g p = p.2.withCore (g p)) : StoresFramed i :=
  .of_meaning he fun s t h => by
    obtain ⟨p, h1, h⟩ := bind_eq_ok.1 h
    cases h
    exact (((StoresWithin.refl _ s).core (h0 s)).busRead h1).core (hg p)

/-- A meaning that reads an 8-bit operand and then writes registers. -/
theorem StoresFramed.of_r8get {x : R8} {g : Byte × State → State}
    (he : ∀ s, exec i s = outcome (r8get x s >>= fun p => .ok (g p)))
    (hg : ∀ p, g p = p.2.withCore (g p)) : StoresFramed i :=
  .of_meaning he fun s t h => by
    obtain ⟨p, h1, h⟩ := bind_eq_ok.1 h
    cases h
    exact ((StoresWithin.refl _ s).r8get h1).core (hg p)

/-- A meaning that reads an 8-bit operand, writes one, and then registers. -/
theorem StoresFramed.of_r8set {src dst : R8} {w : Byte × State → Byte} {g : Byte × State → State → State}
    (he : ∀ s, exec i s = outcome (r8get src s >>= fun p => r8set dst (w p) p.2 >>= fun u => .ok (g p u)))
    (hi : dst = .atHL → ∀ s, storesAt i s s.hl)
    (hg : ∀ p u, g p u = u.withCore (g p u)) : StoresFramed i :=
  .of_meaning he fun s t h => by
    obtain ⟨p, h1, h⟩ := bind_eq_ok.1 h
    obtain ⟨u, h2, h⟩ := bind_eq_ok.1 h
    cases h
    have hhl : p.2.hl = s.hl := by rw [r8get_ok h1]
    exact (((StoresWithin.refl _ s).r8get h1).r8set (fun e => hhl ▸ hi e s) h2).core (hg p u)

/-- A meaning that stores A at an address, after a write of registers. -/
theorem StoresFramed.of_storeA {addr : State → Word} {s0 : State → State} {n : Nat}
    (hi : ∀ s, storesAt i s (addr s)) (h0 : ∀ s, s0 s = s.withCore (s0 s))
    (he : ∀ s, exec i s = outcome (busWrite (addr s) (s0 s).A (s0 s) >>= fun t => .ok (t.setCycles n))) :
    StoresFramed i :=
  .of_meaning he fun s t h => by
    obtain ⟨u, h1, h⟩ := bind_eq_ok.1 h
    cases h
    exact (((StoresWithin.refl _ s).core (h0 s)).busWrite (hi s) h1).core rfl

/-- A meaning that pushes a word and then writes registers. -/
theorem StoresFramed.of_push16 {v : State → Word} {g : State → State}
    (hi : ∀ s, storesAt i s (s.sp - 1) ∧ storesAt i s (s.sp - 2))
    (he : ∀ s, exec i s = outcome (push16 (v s) s >>= fun u => .ok (g u)))
    (hg : ∀ u, g u = u.withCore (g u)) : StoresFramed i :=
  .of_meaning he fun s _ h => .pushThen (hi s) hg h

/-- A meaning that pops a word and then writes registers. -/
theorem StoresFramed.of_pop16 {g : Word × State → State}
    (he : ∀ s, exec i s = outcome (pop16 s >>= fun p => .ok (g p)))
    (hg : ∀ p, g p = p.2.withCore (g p)) : StoresFramed i :=
  .of_meaning he fun _ _ h => .popThen hg h

end Shapes

/-! ### Writes of registers leave the bus as it is -/

theorem r16set_withCore (rp : R16) (v : Word) (s : State) : r16set rp v s = s.withCore (r16set rp v s) := by
  cases rp <;> rfl

theorem r16stkSet_withCore (rs : R16Stk) (v : Word) (s : State) : r16stkSet rs v s = s.withCore (r16stkSet rs v s) := by
  cases rs <;> rfl

theorem r16mem_withCore (m : R16Mem) (s : State) : (r16mem m s).2 = s.withCore (r16mem m s).2 := by
  cases m <;> rfl

theorem aluEffect_withCore (op : AluOp) (v : Byte) (s : State) : aluEffect op v s = s.withCore (aluEffect op v s) := by
  rw [(aluEffect_spec op v s).1]
  rfl

/-- The count is no part of the bus. -/
theorem setCycles_withCore {s t : State} (h : t = s.withCore t) (n : Nat) :
    t.setCycles n = s.withCore (t.setCycles n) := by
  rw [h]
  rfl

/-! ### Where a form stores -/

theorem storesAt_mkLd {src : R8} (h : src ≠ .atHL) (s : State) : storesAt (mkLd .atHL src) s s.hl :=
  .inl ⟨rfl, .inl ⟨src, h, rfl⟩⟩

theorem storesAt_mkLdImm (n : Byte) (s : State) : storesAt (mkLdImm .atHL n) s s.hl := .inl ⟨rfl, .inr (.inl ⟨n, rfl⟩)⟩

theorem storesAt_mkInc8 (s : State) : storesAt (mkInc8 .atHL) s s.hl := .inl ⟨rfl, .inr (.inr (.inl rfl))⟩

theorem storesAt_mkDec8 (s : State) : storesAt (mkDec8 .atHL) s s.hl := .inl ⟨rfl, .inr (.inr (.inr (.inl rfl)))⟩

theorem storesAt_mkRot (k : RotOp) (s : State) : storesAt (mkRot k .atHL) s s.hl :=
  .inl ⟨rfl, .inr (.inr (.inr (.inr (.inl ⟨k, rfl⟩))))⟩

theorem storesAt_mkRes (b : Ix3) (s : State) : storesAt (mkRes b .atHL) s s.hl :=
  .inl ⟨rfl, .inr (.inr (.inr (.inr (.inr (.inl ⟨b, rfl⟩)))))⟩

theorem storesAt_mkSet (b : Ix3) (s : State) : storesAt (mkSet b .atHL) s s.hl :=
  .inl ⟨rfl, .inr (.inr (.inr (.inr (.inr (.inr ⟨b, rfl⟩)))))⟩

theorem storesAt_mkStoreMem (m : R16Mem) (s : State) : storesAt (mkStoreMem m) s (r16mem m s).1 :=
  .inr (.inl ⟨m, rfl, rfl⟩)

theorem storesAt_ld_atn16_A (n : Word) (s : State) : storesAt (.ld_atn16_A n) s n := .inr (.inr (.inl rfl))

theorem storesAt_ldh_atn8_A (n : Byte) (s : State) : storesAt (.ldh_atn8_A n) s (ldhAddr n) :=
  .inr (.inr (.inr (.inl ⟨n, rfl, rfl⟩)))

theorem storesAt_ldh_atC_A (s : State) : storesAt .ldh_atC_A s (ldhAddr s.C) :=
  .inr (.inr (.inr (.inr (.inl ⟨rfl, rfl⟩))))

theorem storesAt_ld_atn16_SP {n a : Word} (h : a = n ∨ a = n + 1) (s : State) : storesAt (.ld_atn16_SP n) s a :=
  .inr (.inr (.inr (.inr (.inr (.inl ⟨n, rfl, h⟩)))))

/-- A form that pushes stores to the two bytes below SP. -/
theorem storesAt_belowSP {i : Instr} {s : State} (h : (∃ rs, i = mkPush rs) ∨ (∃ n, i = .call_n16 n) ∨
    (∃ cc n, s.holds cc = true ∧ i = mkCallIf cc n) ∨ ∃ k, i = mkRst k) :
    storesAt i s (s.sp - 1) ∧ storesAt i s (s.sp - 2) := by
  constructor <;> simp only [storesAt, h, and_true, true_or, or_true]

/-! ### The forms -/

theorem storesFramed_mkCallIf (cc : Cond) (n : Word) : StoresFramed (mkCallIf cc n) :=
  .of_meaning (exec_mkCallIf cc n) fun s t h => by
    unfold callIf at h
    split at h
    · next hc =>
      have hi := storesAt_belowSP (i := mkCallIf cc n) (.inr (.inr (.inl ⟨cc, n, hc, rfl⟩)))
      exact .pushThen (g := fun u => (u.setPC n).setCycles 6) hi (fun _ => rfl) h
    · cases h
      exact (StoresWithin.refl _ s).core rfl

theorem storesFramed_mkRetIf (cc : Cond) : StoresFramed (mkRetIf cc) :=
  .of_meaning (exec_mkRetIf cc) fun s t h => by
    unfold retIf at h
    split at h
    · exact .popThen (g := fun p => (p.2.setPC p.1).setCycles 5) (fun _ => rfl) h
    · cases h
      exact (StoresWithin.refl _ s).core rfl

theorem storesFramed_reti : StoresFramed .reti :=
  .of_meaning (f := retInterrupt) (fun _ => rfl) fun s t h => by
    obtain ⟨u, hu, h⟩ := bind_eq_ok.1 h
    cases h
    exact (StoresWithin.popThen (g := fun p => (p.2.setPC p.1).setIME true) (fun _ => rfl) hu).core rfl

theorem storesFramed_ld_atn16_SP (n : Word) : StoresFramed (.ld_atn16_SP n) :=
  .of_meaning (f := storeSP n) (fun _ => rfl) fun s t h => by
    have hi : ∀ a, a = n ∨ a = n + 1 → storesAt (.ld_atn16_SP n) s a := fun _ ha => storesAt_ld_atn16_SP ha s
    obtain ⟨s1, h1, h⟩ := bind_eq_ok.1 h
    obtain ⟨s2, h2, h⟩ := bind_eq_ok.1 h
    cases h
    exact (((StoresWithin.refl _ s).busWrite (hi _ (.inl rfl)) h1).busWrite (hi _ (.inr rfl)) h2).core rfl

theorem storesFramed_mkLdImm (dst : R8) (n : Byte) : StoresFramed (mkLdImm dst n) :=
  .of_meaning (exec_mkLdImm dst n) fun s t h => by
    obtain ⟨s1, h1, h⟩ := bind_eq_ok.1 h
    cases h
    exact ((StoresWithin.refl _ s).r8set (fun e => e ▸ storesAt_mkLdImm n s) h1).core rfl

/-! ### Every instruction -/

theorem storesFramed {i : Instr} (hw : WellFormed i) : StoresFramed i :=
  Instr.formCases (P := StoresFramed)
    (ld := fun _ _ hn => .of_r8set (exec_mkLd hn) (fun e _ => e ▸ storesAt_mkLd (fun h => hn ⟨e, h⟩) _)
      fun _ _ => rfl)
    (ldImm := storesFramed_mkLdImm)
    (ldR16 := fun rp n => .of_core (exec_mkLdR16 rp n) fun _ => setCycles_withCore (r16set_withCore _ _ _) _)
    (storeMem := fun m => .of_storeA (storesAt_mkStoreMem m) (r16mem_withCore m) (exec_mkStoreMem m))
    (loadMem := fun m => .of_busRead (exec_mkLoadMem m) (r16mem_withCore m) fun _ => rfl)
    (incR16 := fun rp => .of_core (exec_mkIncR16 rp) fun _ => setCycles_withCore (r16set_withCore _ _ _) _)
    (decR16 := fun rp => .of_core (exec_mkDecR16 rp) fun _ => setCycles_withCore (r16set_withCore _ _ _) _)
    (addHL := fun rp => .of_core (exec_mkAddHL rp) fun _ => rfl)
    (inc8 := fun x => .of_r8set (exec_mkInc8 x) (fun e _ => e ▸ storesAt_mkInc8 _) fun _ _ => rfl)
    (dec8 := fun x => .of_r8set (exec_mkDec8 x) (fun e _ => e ▸ storesAt_mkDec8 _) fun _ _ => rfl)
    (jrIf := fun cc e => .of_core_if (exec_mkJrIf cc e) (fun _ => rfl) fun _ => rfl)
    (retIf := storesFramed_mkRetIf)
    (jpIf := fun cc n => .of_core_if (exec_mkJpIf cc n) (fun _ => rfl) fun _ => rfl)
    (callIf := storesFramed_mkCallIf)
    (pop := fun rs => .of_pop16 (exec_mkPop rs) fun _ => setCycles_withCore (r16stkSet_withCore _ _ _) _)
    (push := fun rs => .of_push16 (fun _ => storesAt_belowSP (.inl ⟨rs, rfl⟩)) (exec_mkPush rs) fun _ => rfl)
    (rst := fun k => .of_push16 (fun _ => storesAt_belowSP (.inr (.inr (.inr ⟨k, rfl⟩)))) (exec_mkRst k) fun _ => rfl)
    (alu := fun op x => .of_r8get (exec_mkAlu op x) fun _ => setCycles_withCore (aluEffect_withCore _ _ _) _)
    (aluImm := fun op n => .of_core (exec_mkAluImm op n) fun _ => setCycles_withCore (aluEffect_withCore _ _ _) _)
    (rot := fun k x => .of_r8set (exec_mkRot k x) (fun e _ => e ▸ storesAt_mkRot k _) fun _ _ => rfl)
    (bit := fun b x => .of_r8get (exec_mkBit b x) fun _ => rfl)
    (res := fun b x => .of_r8set (exec_mkRes b x) (fun e _ => e ▸ storesAt_mkRes b _) fun _ _ => rfl)
    (set := fun b x => .of_r8set (exec_mkSet b x) (fun e _ => e ▸ storesAt_mkSet b _) fun _ _ => rfl)
    (ld_atn16_SP' := storesFramed_ld_atn16_SP)
    (stop_n8' := fun _ => .of_core (fun _ => rfl) fun _ => rfl)
    (jr_e8' := fun _ => .of_core (fun _ => rfl) fun _ => rfl)
    (jp_n16' := fun _ => .of_core (fun _ => rfl) fun _ => rfl)
    (call_n16' := fun n => .of_push16 (fun _ => storesAt_belowSP (.inr (.inl ⟨n, rfl⟩))) (fun _ => rfl)
      fun _ => rfl)
    (ldh_atn8_A' := fun n => .of_storeA (s0 := id) (storesAt_ldh_atn8_A n) (fun _ => rfl) fun _ => rfl)
    (add_SP_e8' := fun _ => .of_core (fun _ => rfl) fun _ => rfl)
    (ld_atn16_A' := fun n => .of_storeA (s0 := id) (storesAt_ld_atn16_A n) (fun _ => rfl) fun _ => rfl)
    (ldh_A_atn8' := fun _ => .of_busRead (s0 := id) (fun _ => rfl) (fun _ => rfl) fun _ => rfl)
    (ld_HL_SPe8' := fun _ => .of_core (fun _ => rfl) fun _ => rfl)
    (ld_A_atn16' := fun _ => .of_busRead (s0 := id) (fun _ => rfl) (fun _ => rfl) fun _ => rfl)
    (nop' := .of_core (fun _ => rfl) fun _ => rfl)
    (rlca' := .of_core (fun _ => rfl) fun _ => rfl)
    (rrca' := .of_core (fun _ => rfl) fun _ => rfl)
    (rla' := .of_core (fun _ => rfl) fun _ => rfl)
    (rra' := .of_core (fun _ => rfl) fun _ => rfl)
    (daa' := .of_core (fun _ => rfl) fun _ => rfl)
    (cpl' := .of_core (fun _ => rfl) fun _ => rfl)
    (scf' := .of_core (fun _ => rfl) fun _ => rfl)
    (ccf' := .of_core (fun _ => rfl) fun _ => rfl)
    (halt' := .of_core (fun _ => rfl) fun _ => rfl)
    (ret' := .of_pop16 (fun _ => rfl) fun _ => rfl)
    (reti' := storesFramed_reti)
    (ldh_atC_A' := .of_storeA (s0 := id) storesAt_ldh_atC_A (fun _ => rfl) fun _ => rfl)
    (jp_HL' := .of_core (fun _ => rfl) fun _ => rfl)
    (ldh_A_atC' := .of_busRead (s0 := id) (fun _ => rfl) (fun _ => rfl) fun _ => rfl)
    (di' := .of_core (fun _ => rfl) fun _ => rfl)
    (ld_SP_HL' := .of_core (fun _ => rfl) fun _ => rfl)
    (ei' := .of_core (fun _ => rfl) fun _ => rfl)
    (illegal := fun _ ⟨_, _, he⟩ s _ h => nomatch (he s).symm.trans h)
    i hw

/-- Under the fixed bank a byte whose address is not stored to reads as before. -/
theorem StoresWithin.readByte {A : Word → Prop} {s t : State} (h : StoresWithin A s t) {b : Word} (hx : s.closed b)
    (hf : s.wramx = .fixed) (hb : ∀ a, A a → echoFold b ≠ echoFold a) : readByte b t = readByte b s := by
  obtain ⟨hm, hc, hi, hv, hw⟩ := h
  have hbank : t.wramxBankShown = s.wramxBankShown := by unfold State.wramxBankShown; rw [hw, hf]
  have hkey : t.keyOf b = s.keyOf b := by unfold State.keyOf State.storageKey; rw [hbank]
  refine readByte_congr (accessOf_congr hc hi hv b) ?_ fun hn => absurd hx hn
  rw [State.kept, State.kept, hkey]
  exact hm _ (by rw [keyOf_mod]; exact hb)

/-- Settles O60: an instruction changes storage only where it stores (`storesFramed`), and the byte of an address is kept
at the address, folded (`keyOf_mod`). -/
theorem storeFrame : Obligations.StoreFrame := by
  unfold Obligations.StoreFrame
  intro i s t hw h
  have hs := storesFramed hw s t h
  exact ⟨hs.mem, fun b hx hf hb => hs.readByte hx hf hb, hs.devices⟩

end Sys2Proof.Machine
end

section
/-! SUPPORT. The opcode maps of 30_encoding.md R128 to R132 from the instruction's side: the bytes of each form, by the
indices of its operands. -/

namespace Sys2Proof

/-! ### The bytes of the forms -/

theorem encode_mkLd (dst src : R8) : encode (mkLd dst src) = [BitVec.ofNat 8 (0x40 + 8 * r8Ix dst + r8Ix src)] := by
  cases dst <;> cases src <;> rfl
theorem encode_mkLdImm (dst : R8) (n : Byte) : encode (mkLdImm dst n) = [BitVec.ofNat 8 (0x06 + 8 * r8Ix dst), n] := by
  cases dst <;> rfl
theorem encode_mkLdR16 (rp : R16) (n : Word) :
    encode (mkLdR16 rp n) = [BitVec.ofNat 8 (0x01 + 16 * r16Ix rp), loByte n, hiByte n] := by
  cases rp <;> rfl
theorem encode_mkStoreMem (m : R16Mem) : encode (mkStoreMem m) = [BitVec.ofNat 8 (0x02 + 16 * r16MemIx m)] := by
  cases m <;> rfl
theorem encode_mkLoadMem (m : R16Mem) : encode (mkLoadMem m) = [BitVec.ofNat 8 (0x0A + 16 * r16MemIx m)] := by
  cases m <;> rfl
theorem encode_mkIncR16 (rp : R16) : encode (mkIncR16 rp) = [BitVec.ofNat 8 (0x03 + 16 * r16Ix rp)] := by
  cases rp <;> rfl
theorem encode_mkDecR16 (rp : R16) : encode (mkDecR16 rp) = [BitVec.ofNat 8 (0x0B + 16 * r16Ix rp)] := by
  cases rp <;> rfl
theorem encode_mkAddHL (rp : R16) : encode (mkAddHL rp) = [BitVec.ofNat 8 (0x09 + 16 * r16Ix rp)] := by
  cases rp <;> rfl
theorem encode_mkInc8 (x : R8) : encode (mkInc8 x) = [BitVec.ofNat 8 (0x04 + 8 * r8Ix x)] := by
  cases x <;> rfl
theorem encode_mkDec8 (x : R8) : encode (mkDec8 x) = [BitVec.ofNat 8 (0x05 + 8 * r8Ix x)] := by
  cases x <;> rfl
theorem encode_mkJrIf (cc : Cond) (e : Byte) : encode (mkJrIf cc e) = [BitVec.ofNat 8 (0x20 + 8 * condIx cc), e] := by
  cases cc <;> rfl
theorem encode_mkRetIf (cc : Cond) : encode (mkRetIf cc) = [BitVec.ofNat 8 (0xC0 + 8 * condIx cc)] := by
  cases cc <;> rfl
theorem encode_mkJpIf (cc : Cond) (n : Word) :
    encode (mkJpIf cc n) = [BitVec.ofNat 8 (0xC2 + 8 * condIx cc), loByte n, hiByte n] := by
  cases cc <;> rfl
theorem encode_mkCallIf (cc : Cond) (n : Word) :
    encode (mkCallIf cc n) = [BitVec.ofNat 8 (0xC4 + 8 * condIx cc), loByte n, hiByte n] := by
  cases cc <;> rfl
theorem encode_mkPop (rs : R16Stk) : encode (mkPop rs) = [BitVec.ofNat 8 (0xC1 + 16 * r16StkIx rs)] := by
  cases rs <;> rfl
theorem encode_mkPush (rs : R16Stk) : encode (mkPush rs) = [BitVec.ofNat 8 (0xC5 + 16 * r16StkIx rs)] := by
  cases rs <;> rfl
theorem encode_mkRst (k : Ix3) : encode (mkRst k) = [BitVec.ofNat 8 (0xC7 + 8 * ix3Val k)] := by
  cases k <;> rfl
theorem encode_mkAlu (op : AluOp) (x : R8) :
    encode (mkAlu op x) = [BitVec.ofNat 8 (0x80 + 8 * aluOpIx op + r8Ix x)] := by
  cases op <;> cases x <;> rfl
theorem encode_mkAluImm (op : AluOp) (n : Byte) :
    encode (mkAluImm op n) = [BitVec.ofNat 8 (0xC6 + 8 * aluOpIx op), n] := by
  cases op <;> rfl
theorem encode_mkRot (k : RotOp) (x : R8) :
    encode (mkRot k x) = [0xCB, BitVec.ofNat 8 (8 * rotOpIx k + r8Ix x)] := by
  cases k <;> cases x <;> rfl
theorem encode_mkBit (b : Ix3) (x : R8) :
    encode (mkBit b x) = [0xCB, BitVec.ofNat 8 (0x40 + 8 * ix3Val b + r8Ix x)] := by
  cases b <;> cases x <;> rfl
theorem encode_mkRes (b : Ix3) (x : R8) :
    encode (mkRes b x) = [0xCB, BitVec.ofNat 8 (0x80 + 8 * ix3Val b + r8Ix x)] := by
  cases b <;> cases x <;> rfl
theorem encode_mkSet (b : Ix3) (x : R8) :
    encode (mkSet b x) = [0xCB, BitVec.ofNat 8 (0xC0 + 8 * ix3Val b + r8Ix x)] := by
  cases b <;> cases x <;> rfl

/-! ### Fields and indices -/

theorem field_eq (op : Byte) (lo len : Nat) : field op lo len = op.toNat / 2 ^ lo % 2 ^ len := by
  rw [field, BitVec.extractLsb'_toNat, Nat.shiftRight_eq_div_pow]

theorem field_lt (op : Byte) (lo len : Nat) : field op lo len < 2 ^ len := BitVec.isLt _

/-- A byte is its three fields `op[7:6]`, `op[5:3]`, `op[2:0]` (30_encoding.md R113). -/
theorem toNat_eq_fields (op : Byte) : op.toNat = 64 * field op 6 2 + 8 * field op 3 3 + field op 0 3 := by
  have := op.isLt
  simp only [field_eq]; omega

/-- `op[5:3]` is `op[5:4]` and `op[3]`. -/
theorem field_pair (op : Byte) : field op 3 3 = 2 * field op 4 2 + field op 3 1 := by
  simp only [field_eq]; omega

/-- `op[4:3]` is the low two bits of `op[5:3]`. -/
theorem field_cond (op : Byte) : field op 3 2 = field op 3 3 % 4 := by
  simp only [field_eq]; omega

theorem r8Ix_r8Of {n : Nat} (h : n < 8) : r8Ix (r8Of n) = n := by revert n; decide
theorem r16Ix_r16Of {n : Nat} (h : n < 4) : r16Ix (r16Of n) = n := by revert n; decide
theorem r16StkIx_r16StkOf {n : Nat} (h : n < 4) : r16StkIx (r16StkOf n) = n := by revert n; decide
theorem r16MemIx_r16MemOf {n : Nat} (h : n < 4) : r16MemIx (r16MemOf n) = n := by revert n; decide
theorem condIx_condOf {n : Nat} (h : n < 4) : condIx (condOf n) = n := by revert n; decide
theorem aluOpIx_aluOpOf {n : Nat} (h : n < 8) : aluOpIx (aluOpOf n) = n := by revert n; decide
theorem rotOpIx_rotOpOf {n : Nat} (h : n < 8) : rotOpIx (rotOpOf n) = n := by revert n; decide
theorem ix3Val_ix3Of {n : Nat} (h : n < 8) : ix3Val (ix3Of n) = n := by revert n; decide

end Sys2Proof
end

section
/-! SUPPORT. The decoder and the encoder are inverse to each other (30_encoding.md R110 to R140). -/

namespace Sys2Proof

/-! ### Encode, then decode -/

/-- The decoder reads `i` from the listed bytes, with any bytes `b1`, `b2` where the list ends. -/
def ReadsAs (b1 b2 : Byte) (i : Instr) : List Byte → Prop
  | [op] => decodeInstr op b1 b2 = i
  | [op, b] => decodeInstr op b b2 = i
  | [op, lo, hi] => decodeInstr op lo hi = i
  | _ => False

/-- Every row of the tables is read back by computation; a word operand is the join of its two bytes. -/
theorem readsAs_encode {i : Instr} (hw : WellFormed i) (b1 b2 : Byte) : ReadsAs b1 b2 i (encode i) := by
  cases i with
  | prefix_CB => exact Bool.noConfusion hw
  | ld_BC_n16 n | ld_atn16_SP n | ld_DE_n16 n | ld_HL_n16 n | ld_SP_n16 n | jp_NZ_n16 n | jp_n16 n | call_NZ_n16 n
  | jp_Z_n16 n | call_Z_n16 n | call_n16 n | jp_NC_n16 n | call_NC_n16 n | jp_C_n16 n | call_C_n16 n | ld_atn16_A n
  | ld_A_atn16 n => exact congrArg _ (Machine.join_hiByte_loByte n)
  | _ => exact rfl

/-- The first byte of an encoding fixes its length (30_encoding.md R111, R140). -/
theorem encode_length (i : Instr) : (encode i).length = instrLength ((encode i).headD 0) := by cases i <;> rfl

theorem decode_encode {i : Instr} (hw : WellFormed i) (rest : List Byte) :
    decode (encode i ++ rest) = .ok (i, rest) := by
  have hr := readsAs_encode hw
  have hl := (encode_length i).symm
  match encode i, hr, hl with
  | [], hr, _ => exact (hr 0 0).elim
  | [op], hr, (hl : instrLength op = 1) => rw [Machine.decode_one hl, hr]
  | [op, b], hr, (hl : instrLength op = 2) => rw [Machine.decode_two hl, hr 0]
  | [op, lo, hi], hr, (hl : instrLength op = 3) => rw [Machine.decode_three hl, hr 0 0]
  | _ :: _ :: _ :: _ :: _, hr, _ => exact (hr 0 0).elim

/-- Settles O6: the decoder reads the instruction from its encoding (`decode_encode`). -/
theorem decodeOfEncode : Obligations.DecodeOfEncode := by
  unfold Obligations.DecodeOfEncode
  exact fun i rest hw => decode_encode hw rest

/-! ### Decode, then encode -/

section Front
variable {op b1 b2 a : Byte} (h : op = a)
include h

theorem opcode_isPrefix : [a] <+: [op, b1, b2] := h ▸ ⟨[b1, b2], rfl⟩

theorem opcode_byte_isPrefix : [a, b1] <+: [op, b1, b2] := h ▸ ⟨[b2], rfl⟩

theorem opcode_word_isPrefix : [a, loByte (join b2 b1), hiByte (join b2 b1)] <+: [op, b1, b2] := by
  rw [h, Machine.loByte_join, Machine.hiByte_join]

end Front

/-! The last arm of a `match` is the one the others leave: there `imp_false` makes inequalities of what `split` says of
the others, and with the bound of the field they give its value. -/

/-- The two bytes of a second-page instruction (30_encoding.md R127, R132). -/
theorem encode_decodeCB (op2 : Byte) : encode (decodeCB op2) = [0xCB, op2] := by
  have hf := toNat_eq_fields op2
  have hx := field_lt op2 6 2
  have hr : r8Ix (r8Of (field op2 0 3)) = field op2 0 3 := r8Ix_r8Of (field_lt op2 0 3)
  have hb : ix3Val (ix3Of (field op2 3 3)) = field op2 3 3 := ix3Val_ix3Of (field_lt op2 3 3)
  have hk : rotOpIx (rotOpOf (field op2 3 3)) = field op2 3 3 := rotOpIx_rotOpOf (field_lt op2 3 3)
  unfold decodeCB
  split
  · exact (encode_mkRot _ _).trans (congrArg ([0xCB, ·]) (by bv_omega))
  · exact (encode_mkBit _ _).trans (congrArg ([0xCB, ·]) (by bv_omega))
  · exact (encode_mkRes _ _).trans (congrArg ([0xCB, ·]) (by bv_omega))
  · simp only [imp_false] at *
    exact (encode_mkSet _ _).trans (congrArg ([0xCB, ·]) (by bv_omega))

theorem encode_decodeBlock0 {op : Byte} (hx : field op 6 2 = 0) (b1 b2 : Byte) :
    encode (decodeBlock0 op b1 b2) <+: [op, b1, b2] := by
  have hf := toNat_eq_fields op
  have hp := field_pair op
  have hc := field_cond op
  have hy := field_lt op 3 3
  have hz := field_lt op 0 3
  have hq := field_lt op 3 1
  have hr8 := r8Ix_r8Of (field_lt op 3 3)
  have hr16 := r16Ix_r16Of (field_lt op 4 2)
  have hmem := r16MemIx_r16MemOf (field_lt op 4 2)
  have hcc := condIx_condOf (field_lt op 3 2)
  unfold decodeBlock0
  dsimp only
  split
  · split
    · exact opcode_isPrefix (by bv_omega)
    · exact opcode_word_isPrefix (by bv_omega)
    · exact opcode_byte_isPrefix (by bv_omega)
    · exact opcode_byte_isPrefix (by bv_omega)
    · simp only [imp_false] at *
      rw [encode_mkJrIf]; exact opcode_byte_isPrefix (by bv_omega)
  · split
    · rw [encode_mkLdR16]; exact opcode_word_isPrefix (by bv_omega)
    · rw [encode_mkAddHL]; exact opcode_isPrefix (by bv_omega)
  · split
    · rw [encode_mkStoreMem]; exact opcode_isPrefix (by bv_omega)
    · rw [encode_mkLoadMem]; exact opcode_isPrefix (by bv_omega)
  · split
    · rw [encode_mkIncR16]; exact opcode_isPrefix (by bv_omega)
    · rw [encode_mkDecR16]; exact opcode_isPrefix (by bv_omega)
  · rw [encode_mkInc8]; exact opcode_isPrefix (by bv_omega)
  · rw [encode_mkDec8]; exact opcode_isPrefix (by bv_omega)
  · rw [encode_mkLdImm]; exact opcode_byte_isPrefix (by bv_omega)
  · simp only [imp_false] at *
    split
    case h_8 => simp only [imp_false] at *; exact opcode_isPrefix (by bv_omega)
    all_goals exact opcode_isPrefix (by bv_omega)

theorem encode_decodeBlock3 {op : Byte} (hx : field op 6 2 = 3) (b1 b2 : Byte) :
    encode (decodeBlock3 op b1 b2) <+: [op, b1, b2] := by
  have hf := toNat_eq_fields op
  have hp := field_pair op
  have hc := field_cond op
  have hy := field_lt op 3 3
  have hz := field_lt op 0 3
  have hq := field_lt op 3 1
  have hstk := r16StkIx_r16StkOf (field_lt op 4 2)
  have hcc := condIx_condOf (field_lt op 3 2)
  have halu := aluOpIx_aluOpOf (field_lt op 3 3)
  have hix := ix3Val_ix3Of (field_lt op 3 3)
  unfold decodeBlock3
  dsimp only
  split
  · split
    case h_5 => simp only [imp_false] at *; rw [encode_mkRetIf]; exact opcode_isPrefix (by bv_omega)
    all_goals exact opcode_byte_isPrefix (by bv_omega)
  · split
    · rw [encode_mkPop]; exact opcode_isPrefix (by bv_omega)
    · split
      case h_4 => simp only [imp_false] at *; exact opcode_isPrefix (by bv_omega)
      all_goals exact opcode_isPrefix (by bv_omega)
  · split
    case h_1 | h_3 => exact opcode_isPrefix (by bv_omega)
    case h_2 | h_4 => exact opcode_word_isPrefix (by bv_omega)
    case h_5 => simp only [imp_false] at *; rw [encode_mkJpIf]; exact opcode_word_isPrefix (by bv_omega)
  · split
    case h_1 => exact opcode_word_isPrefix (by bv_omega)
    case h_2 => rw [encode_decodeCB]; exact opcode_byte_isPrefix (by bv_omega)
    case h_8 => simp only [imp_false] at *; exact opcode_isPrefix (by bv_omega)
    all_goals exact opcode_isPrefix (by bv_omega)
  · split
    case h_5 => simp only [imp_false] at *; rw [encode_mkCallIf]; exact opcode_word_isPrefix (by bv_omega)
    all_goals exact opcode_isPrefix (by bv_omega)
  · split
    · rw [encode_mkPush]; exact opcode_isPrefix (by bv_omega)
    · split
      case h_1 => exact opcode_word_isPrefix (by bv_omega)
      case h_4 => simp only [imp_false] at *; exact opcode_isPrefix (by bv_omega)
      all_goals exact opcode_isPrefix (by bv_omega)
  · rw [encode_mkAluImm]; exact opcode_byte_isPrefix (by bv_omega)
  · simp only [imp_false] at *
    rw [encode_mkRst]; exact opcode_isPrefix (by bv_omega)

/-- The decoder reads `op` and the operand bytes, and drops no bit of them (30_encoding.md R133, R135). -/
theorem encode_decodeInstr (op b1 b2 : Byte) : encode (decodeInstr op b1 b2) <+: [op, b1, b2] := by
  have hf := toNat_eq_fields op
  have hx := field_lt op 6 2
  have hy := r8Ix_r8Of (field_lt op 3 3)
  have hz := r8Ix_r8Of (field_lt op 0 3)
  have halu := aluOpIx_aluOpOf (field_lt op 3 3)
  unfold decodeInstr
  split
  · exact encode_decodeBlock0 ‹_› b1 b2
  · rw [encode_mkLd]; exact opcode_isPrefix (by bv_omega)
  · rw [encode_mkAlu]; exact opcode_isPrefix (by bv_omega)
  · simp only [imp_false] at *
    exact encode_decodeBlock3 (by omega) b1 b2

/-- Its encoding is the bytes read: `op` and as many more as `op` alone says (30_encoding.md R111). -/
theorem encode_decodeInstr_eq_take (op b1 b2 : Byte) :
    encode (decodeInstr op b1 b2) = [op, b1, b2].take (instrLength op) := by
  have hp := encode_decodeInstr op b1 b2
  have hl := encode_length (decodeInstr op b1 b2)
  cases he : encode (decodeInstr op b1 b2) with
  | nil =>
    rw [he] at hl
    exact absurd hl (Nat.ne_of_lt (Machine.instrLength_pos _))
  | cons a as =>
    rw [he] at hp hl
    obtain ⟨rfl, -⟩ := List.cons_prefix_cons.1 hp
    rw [List.prefix_iff_eq_take.1 hp, hl, List.headD_cons]

theorem instrLength_le_three (op : Byte) : instrLength op ≤ 3 := by
  unfold instrLength; split <;> [skip; split] <;> omega

theorem decode_truncated {op : Byte} {rest : List Byte} (h : rest.length + 1 < instrLength op) :
    decode (op :: rest) = .error (.truncated op) := by
  unfold decode; dsimp only; rw [if_pos (by omega)]

/-- Everything a decode that answers an instruction can have read. -/
theorem decode_eq_ok {bytes rest : List Byte} {i : Instr} (h : decode bytes = .ok (i, rest)) :
    ∃ op tl, bytes = op :: tl ∧ instrLength op ≤ tl.length + 1 ∧ i = decodeInstr op (tl.getD 0 0) (tl.getD 1 0) ∧
      rest = (op :: tl).drop (instrLength op) := by
  cases bytes with
  | nil => cases h
  | cons op tl =>
    rcases Nat.lt_or_ge (tl.length + 1) (instrLength op) with hs | hs
    · rw [decode_truncated hs] at h; cases h
    · rw [Machine.decode_cons hs] at h
      cases h
      exact ⟨op, tl, rfl, hs, rfl, (List.drop_cons (Machine.instrLength_pos op)).symm⟩

/-- The first bytes of an input as the decoder looks at them. -/
theorem take_getD {n : Nat} {op : Byte} {tl : List Byte} (h3 : n ≤ 3) (hn : n ≤ tl.length + 1) :
    [op, tl.getD 0 0, tl.getD 1 0].take n = (op :: tl).take n := by
  match tl, n with
  | _, 0 | _, 1 | _ :: _, 2 | _ :: _ :: _, 3 => rfl
  | [], 2 | [], 3 | [_], 3 => simp at hn
  | _, n + 4 => omega

/-- Settles O7: the encoding is the bytes taken (`encode_decodeInstr_eq_take`), the rest the bytes left. -/
theorem encodeOfDecode : Obligations.EncodeOfDecode := by
  unfold Obligations.EncodeOfDecode
  intro bytes i rest h
  obtain ⟨op, tl, rfl, hn, rfl, rfl⟩ := decode_eq_ok h
  refine ⟨decodeInstr_wellFormed _ _ _, ?_⟩
  rw [encode_decodeInstr_eq_take, take_getD (instrLength_le_three op) hn, List.take_append_drop]

/-- Settles O8: the test of the length is the decoder's only refusal (`decode_truncated`, `decode_cons`). -/
theorem decodeRejectsOnlyShortInput : Obligations.DecodeRejectsOnlyShortInput := by
  unfold Obligations.DecodeRejectsOnlyShortInput
  refine ⟨rfl, fun op rest => ⟨decode_truncated, fun h => ⟨decodeInstr op (rest.getD 0 0) (rest.getD 1 0), ?_⟩⟩⟩
  rw [Machine.decode_cons h, List.drop_cons (Machine.instrLength_pos op)]

/-- Settles O9: each word is looked up in the maps. -/
theorem opcodeWordsDecode : Obligations.OpcodeWordsDecode := by
  unfold Obligations.OpcodeWordsDecode
  exact ⟨rfl, rfl, rfl, rfl, rfl, rfl, rfl, rfl, rfl, rfl, rfl, rfl, rfl, rfl, rfl, rfl, rfl⟩

end Sys2Proof
end

section
/-! SUPPORT. What a step makes of the bytes it fetches (30_encoding.md R110, R112, R134), what the row of
0xCB means (R127, R132), and the operands the selectors name (R114 to R119). -/

namespace Sys2Proof.Machine

/-! ### The step -/

/-- Settles O5: the fetch decodes the bytes (`fetchInstr_of_bytes`), and the step runs what it gives (`step_runs`). -/
theorem stepRunsDecodedInstruction : Obligations.StepRunsDecodedInstruction := by
  unfold Obligations.StepRunsDecodedInstruction
  intro s s1 bytes i hr hd hf
  refine ⟨(fetchBytes_ok hf).1, ?_⟩
  rw [step_runs hr, fetchInstr_of_bytes hd hf]
  cases he : exec i s1 with
  | next t => simp [afterInstr, promoteEi, State.setIME, State.setEiDelay, he]
  | fault f => simp [afterInstr, he]
  | refused r => simp [afterInstr, he]

/-- An illegal opcode is a whole instruction, and it names itself (30_encoding.md R134). -/
theorem exec_decodeInstr_of_illegal {op : Byte} (h : op ∈ illegalOpcodes) :
    instrLength op = 1 ∧ ∀ b1 b2 s, exec (decodeInstr op b1 b2) s = .fault (.illegalOpcode op) := by
  simp only [illegalOpcodes, List.mem_cons, List.not_mem_nil, or_false] at h
  rcases h with rfl | rfl | rfl | rfl | rfl | rfl | rfl | rfl | rfl | rfl | rfl <;> exact ⟨rfl, fun _ _ _ => rfl⟩

theorem stateAfterCall_of_fault {s : State} {f : Fault} (h : step s = .fault f) : stateAfterCall s = s := by
  unfold stateAfterCall; rw [h]

/-- A step that fetches an illegal opcode fetches no more and fails. -/
theorem step_of_illegal {s s1 : State} {op : Byte} (h : op ∈ illegalOpcodes) (hr : runsInstruction s)
    (hb : busRead s.pc (s.setHalted false) = .ok (op, s1)) : step s = .fault (.illegalOpcode op) := by
  obtain ⟨hlen, hexec⟩ := exec_decodeInstr_of_illegal h
  have hf : fetch8 (s.setHalted false) = .ok (op, { s1 with pc := s.pc + 1 }) := fetch8_of_busRead hb
  have hi : fetchInstr (s.setHalted false) = .ok (decodeInstr op 0 0, { s1 with pc := s.pc + 1 }) := by
    unfold fetchInstr
    rw [hf, ok_bind]
    dsimp only
    rw [hlen]
    rfl
  rw [step_runs hr, hi]
  dsimp only
  rw [hexec]
  rfl

/-- Settles O10: the step fails (`step_of_illegal`), and the state is the one before it. -/
theorem illegalOpcodesFail : Obligations.IllegalOpcodesFail := by
  unfold Obligations.IllegalOpcodesFail
  refine ⟨fun s s1 op h hr hb => ?_, fun s => ⟨rfl, rfl, rfl, rfl, rfl, rfl, rfl, rfl, rfl, rfl, rfl⟩⟩
  have hs := step_of_illegal h hr hb
  have hc := stateAfterCall_of_fault hs
  exact ⟨hs, hc, by rw [hc, hs]⟩

/-! ### The row of 0xCB -/

theorem exec_prefix_CB (op2 : Byte) (s : State) : exec (.prefix_CB op2) s = outcome (pageInstr op2 s) := rfl

theorem exec_decodeCB (op2 : Byte) (s : State) : exec (decodeCB op2) s = outcome (pageInstr op2 s) := by
  have hlt := field_lt op2 6 2
  have hx : field op2 6 2 = 0 ∨ field op2 6 2 = 1 ∨ field op2 6 2 = 2 ∨ field op2 6 2 = 3 := by omega
  unfold decodeCB pageInstr
  rcases hx with hx | hx | hx | hx <;> rw [hx]
  · exact exec_mkRot _ _ s
  · exact exec_mkBit _ _ s
  · exact exec_mkRes _ _ s
  · exact exec_mkSet _ _ s

theorem decode_CB (op2 : Byte) : decode [0xCB, op2] = .ok (decodeCB op2, []) := by
  have h := decode_encode (decodeCB_wellFormed op2) []
  rwa [encode_decodeCB] at h

/-- A second-page instruction reads its operand and writes it at most once. -/
theorem pageInstr_completes {op2 : Byte} {s s1 : State} {v : Byte} (hg : r8get (r8Of (field op2 0 3)) s = .ok (v, s1))
    (hs : ∀ w, ∃ s2, r8set (r8Of (field op2 0 3)) w s1 = .ok s2) : ∃ t, pageInstr op2 s = .ok t := by
  unfold pageInstr
  dsimp only
  split
  · obtain ⟨s2, h2⟩ := hs (cbrot (rotOpOf (field op2 3 3)) v s1.fC).1
    exact ⟨_, by rw [rotate8, hg, ok_bind]; dsimp only; rw [h2, ok_bind]⟩
  · exact ⟨_, by rw [testBit, hg, ok_bind]⟩
  · obtain ⟨s2, h2⟩ := hs (v &&& ~~~(1#8 <<< ix3Val (ix3Of (field op2 3 3))))
    exact ⟨_, by rw [resetBit, hg, ok_bind]; dsimp only; rw [h2, ok_bind]⟩
  · obtain ⟨s2, h2⟩ := hs (v ||| (1#8 <<< ix3Val (ix3Of (field op2 3 3))))
    exact ⟨_, by rw [setBit, hg, ok_bind]; dsimp only; rw [h2, ok_bind]⟩

theorem exec_prefix_CB_completes {op2 : Byte} {s s1 : State} {v : Byte}
    (hg : r8get (r8Of (field op2 0 3)) s = .ok (v, s1))
    (hs : ∀ w, ∃ s2, r8set (r8Of (field op2 0 3)) w s1 = .ok s2) : ∃ t, exec (.prefix_CB op2) s = .next t := by
  obtain ⟨t, ht⟩ := pageInstr_completes hg hs
  exact ⟨t, by rw [exec_prefix_CB, ht, outcome_ok]⟩

theorem r8Of_eq_atHL (op2 : Byte) : r8Of (field op2 0 3) = .atHL ↔ op2.toNat % 8 = 6 := by
  have key : ∀ n, n < 8 → (r8Of n = .atHL ↔ n = 6) := by decide
  have hf : field op2 0 3 = op2.toNat % 8 := by rw [field_eq]; omega
  rw [← hf, key _ (field_lt op2 0 3)]

/-- Settles O53: both sides call `pageInstr`, which completes when its operand is read and written. -/
theorem prefixRow : Obligations.PrefixRow := by
  unfold Obligations.PrefixRow
  refine ⟨fun op2 s => ⟨by rw [exec_prefix_CB, exec_decodeCB], decode_CB op2, decodeCB_wellFormed op2⟩,
    fun op2 s h => ?_, fun op2 s s1 v h hg hs => ?_, rfl⟩
  · have hr : r8Of (field op2 0 3) ≠ .atHL := (r8Of_eq_atHL op2).not.2 h
    obtain ⟨v, hg⟩ := r8get_reg hr s
    exact exec_prefix_CB_completes hg fun w => (r8set_reg hr w s).imp fun _ h2 => h2.1
  · have hr : r8Of (field op2 0 3) = .atHL := (r8Of_eq_atHL op2).2 h
    have hhl : s1.hl = s.hl := by rw [busRead_ok hg]
    refine exec_prefix_CB_completes (v := v) (s1 := s1) (by rw [hr]; exact hg) fun w => ?_
    rw [hr, r8set, hhl]
    exact hs w

/-! ### The operands of the selectors -/

/-- Settles O25: each half is read and written in its pair; A leaves the stored F bits (`State.setA_F`). -/
theorem byteOperands : Obligations.ByteOperands := by
  unfold Obligations.ByteOperands
  refine ⟨⟨rfl, rfl, rfl, rfl, rfl, rfl, rfl, rfl⟩, fun s => ⟨rfl, rfl, rfl, rfl, rfl, rfl, rfl, rfl⟩,
    fun s v => ⟨rfl, rfl, rfl, rfl, rfl, rfl, rfl, _, rfl, rfl, State.setA_A s v, State.setA_F s v⟩⟩

/-- Settles O26: the selectors are tables, and a write of AF masks F[3:0] (10_state.md R34). -/
theorem pairOperands : Obligations.PairOperands := by
  unfold Obligations.PairOperands
  exact ⟨⟨rfl, rfl, rfl, rfl⟩, ⟨rfl, rfl, rfl, rfl⟩, ⟨rfl, rfl, rfl, rfl⟩, fun s =>
    ⟨⟨rfl, rfl, rfl, rfl⟩, ⟨rfl, rfl, rfl, rfl⟩, fun v => ⟨rfl, rfl, rfl, rfl⟩, fun v => ⟨rfl, rfl, rfl, rfl⟩,
      ⟨rfl, rfl, rfl, rfl⟩⟩⟩

/-- Settles O27: a condition is its flag or the flag's negation. -/
theorem conditions : Obligations.Conditions := by
  unfold Obligations.Conditions
  exact ⟨⟨rfl, rfl, rfl, rfl⟩, fun s => ⟨by simp [State.holds], Iff.rfl, by simp [State.holds], Iff.rfl⟩⟩

end Sys2Proof.Machine
end

section
/-! SUPPORT. The loads (40_loads.md R150 to R163): each form moves one byte or one pair, keeps the flags, and fails with
the error of its own access. -/

namespace Sys2Proof.Machine

/-! ### Between the 8-bit operands, and from an immediate byte -/

/-- The count of `LD dst,src`: 2 where either operand is `[HL]`. -/
theorem max_cyclesOf (dst src : R8) :
    max (cyclesOf dst 1 2) (cyclesOf src 1 2) = if dst = .atHL ∨ src = .atHL then 2 else 1 := by
  rw [cyclesOf_eq, cyclesOf_eq]
  by_cases hd : dst = .atHL <;> by_cases hs : src = .atHL <;> simp [hd, hs]

/-- Settles O30: the two accesses of `load8` in their order. -/
theorem loadByteForms : Obligations.LoadByteForms := by
  unfold Obligations.LoadByteForms
  intro dst src s hn
  rw [exec_mkLd hn, load8]
  refine ⟨fun v s1 s2 hg hs => ?_, fun f hg => ?_, fun v s1 f hg hs => ?_, encode_mkLd dst src⟩
  · rw [hg, ok_bind]; dsimp only; rw [hs, ok_bind, max_cyclesOf]; rfl
  · rw [hg, error_bind, outcome_error]
  · rw [hg, ok_bind]; dsimp only; rw [hs, error_bind, outcome_error]

/-- Settles O31: the one access of `loadImm`. -/
theorem loadImmediateForms : Obligations.LoadImmediateForms := by
  unfold Obligations.LoadImmediateForms
  intro dst n s
  rw [exec_mkLdImm, loadImm]
  refine ⟨fun s1 hs => ?_, fun f hs => ?_, encode_mkLdImm dst n⟩
  · rw [hs, ok_bind, cyclesOf_eq]; rfl
  · rw [hs, error_bind, outcome_error]

/-! ### Loads and stores of A -/

theorem F_of_busRead {a : Word} {s t : State} {v : Byte} (h : busRead a s = .ok (v, t)) : t.F = s.F := by
  rw [busRead_ok h]; rfl

/-- A meaning that stores A at an address. -/
theorem storesA_of_exec {i : Instr} {addr : Word} {n : Nat} {s : State}
    (he : exec i s = outcome (busWrite addr s.A s >>= fun t => .ok (t.setCycles n))) : storesA i addr n s := by
  refine ⟨fun t h => ?_, fun f h => ?_⟩
  · rw [he, h, ok_bind]; rfl
  · rw [he, h, error_bind, outcome_error]

/-- A meaning that loads A from an address: A is the byte read, F stays (`State.setA_F`). -/
theorem loadsA_of_exec {i : Instr} {addr : Word} {n : Nat} {s : State}
    (he : exec i s = outcome (busRead addr s >>= fun p => .ok ((p.2.setA p.1).setCycles n))) : loadsA i addr n s := by
  refine ⟨fun v t h => ⟨(t.setA v).setCycles n, ?_, rfl, State.setA_A t v,
    (State.setA_F t v).trans (F_of_busRead h)⟩, fun f h => ?_⟩
  · rw [he, h, ok_bind, outcome_ok]
  · rw [he, h, error_bind, outcome_error]

/-- The LDH address as a sum: the offset fits under the zero byte of 0xFF00 (30_encoding.md R124). -/
theorem ldhAddr_eq (k : Byte) : ldhAddr k = BitVec.ofNat 16 (0xFF00 + k.toNat) := by
  have hor : 0xFF00 + k.toNat = 0xFF00 ||| k.toNat := Nat.two_pow_add_eq_or_of_lt k.isLt 0xFF
  rw [hor, BitVec.ofNat_or, BitVec.ofNat_toNat]
  rfl

/-- Settles O33: six meanings that store or load A at an address, four of them at an LDH address (`ldhAddr_eq`). -/
theorem directAndHighLoads : Obligations.DirectAndHighLoads := by
  unfold Obligations.DirectAndHighLoads
  intro n k s
  rw [← ldhAddr_eq, ← ldhAddr_eq]
  exact ⟨⟨storesA_of_exec rfl, rfl⟩, ⟨loadsA_of_exec rfl, rfl⟩, ⟨storesA_of_exec rfl, rfl⟩, ⟨loadsA_of_exec rfl, rfl⟩,
    ⟨storesA_of_exec rfl, rfl⟩, ⟨loadsA_of_exec rfl, rfl⟩⟩

/-! ### Through a pair -/

section
variable (m : R16Mem) (s : State)

/-- The bus does not look at HL, so an access is the same before and after `r16mem` moves it. -/
theorem busWrite_r16mem (a : Word) (v : Byte) :
    busWrite a v (r16mem m s).2 = (busWrite a v s).map fun t => { t with hl := (r16mem m s).2.hl } := by
  rw [busWrite_core (r16mem_withCore m s)]
  cases h : busWrite a v s with
  | error f => rfl
  | ok t => rw [(busWrite_ok h).1]; cases m <;> rfl

theorem busRead_r16mem (a : Word) :
    busRead a (r16mem m s).2 = (busRead a s).map fun p => (p.1, { p.2 with hl := (r16mem m s).2.hl }) := by
  rw [busRead_core (r16mem_withCore m s)]
  cases h : busRead a s with
  | error f => rfl
  | ok p => obtain ⟨v, t⟩ := p; rw [busRead_ok h]; cases m <;> rfl

theorem r16mem_A : (r16mem m s).2.A = s.A := by cases m <;> rfl

/-- A goes to the address of the old HL, and HL moves (40_loads.md R155). -/
theorem storeMem_eq :
    storeMem m s = (busWrite (r16mem m s).1 s.A s).map fun t => { t with hl := (r16mem m s).2.hl, cycles := 2 } := by
  rw [storeMem]
  dsimp only
  rw [r16mem_A, busWrite_r16mem]
  cases busWrite (r16mem m s).1 s.A s <;> rfl

/-- A comes from the address of the old HL, and HL moves (40_loads.md R156). -/
theorem loadMem_eq :
    loadMem m s = (busRead (r16mem m s).1 s).map fun p =>
      { p.2.setA p.1 with hl := (r16mem m s).2.hl, cycles := 2 } := by
  rw [loadMem]
  dsimp only
  rw [busRead_r16mem]
  cases busRead (r16mem m s).1 s <;> rfl

end

/-- Settles O32: one access at the old HL (`storeMem_eq`, `loadMem_eq`); of a load A is the byte read and F stays. -/
theorem indirectLoads : Obligations.IndirectLoads := by
  unfold Obligations.IndirectLoads
  intro m s addr newHL
  have hHL : newHL = (r16mem m s).2.hl := by cases m <;> rfl
  rw [exec_mkStoreMem, exec_mkLoadMem, storeMem_eq, loadMem_eq, hHL]
  refine ⟨fun t h => ?_, fun f h => ?_, fun v t h => ⟨{ t.setA v with hl := (r16mem m s).2.hl, cycles := 2 }, ?_, rfl,
    State.setA_A t v, (State.setA_F t v).trans (F_of_busRead h)⟩, fun f h => ?_, encode_mkStoreMem m, encode_mkLoadMem m⟩
  · rw [h]; rfl
  · rw [h]; rfl
  · rw [h]; rfl
  · rw [h]; rfl

/-! ### The pairs -/

/-- Settles O34: a pair is written from the fetched word, SP from HL, and nothing else changes. -/
theorem loadPairForms : Obligations.LoadPairForms := by
  unfold Obligations.LoadPairForms
  exact ⟨fun rp n s => ⟨by rw [exec_mkLdR16]; rfl, encode_mkLdR16 rp n⟩, fun s => ⟨rfl, rfl⟩⟩

end Sys2Proof.Machine
end

section
/-! SUPPORT. 8-bit arithmetic and logic (41_alu8.md R190 to R225): each law in terms of integers, what an operation leaves
in A and F, and the forms. -/

namespace Sys2Proof.Machine

/-! ### A and the flags after a write -/

section
variable (s : State)

@[simp] theorem State.setCycles_A (n : Nat) : (s.setCycles n).A = s.A := rfl
@[simp] theorem State.setCycles_fZ (n : Nat) : (s.setCycles n).fZ = s.fZ := rfl
@[simp] theorem State.setCycles_fN (n : Nat) : (s.setCycles n).fN = s.fN := rfl
@[simp] theorem State.setCycles_fH (n : Nat) : (s.setCycles n).fH = s.fH := rfl
@[simp] theorem State.setCycles_fC (n : Nat) : (s.setCycles n).fC = s.fC := rfl
@[simp] theorem State.setA_fZ (v : Byte) : (s.setA v).fZ = s.fZ := by rw [State.fZ, State.setA_F, State.fZ]
@[simp] theorem State.setA_fN (v : Byte) : (s.setA v).fN = s.fN := by rw [State.fN, State.setA_F, State.fN]
@[simp] theorem State.setA_fH (v : Byte) : (s.setA v).fH = s.fH := by rw [State.fH, State.setA_F, State.fH]
@[simp] theorem State.setA_fC (v : Byte) : (s.setA v).fC = s.fC := by rw [State.fC, State.setA_F, State.fC]

end

/-! ### The laws in integers -/

theorem nibble_toNat (a : Byte) : (a &&& 0xF).toNat = a.toNat % 16 := by
  rw [BitVec.toNat_and]
  exact Nat.and_two_pow_sub_one_eq_mod a.toNat 4

theorem add8_eq (a b : Byte) (cin : Bool) :
    add8 a b cin =
      { r := BitVec.ofNat 8 (a.toNat + b.toNat + cin.toNat)
        z := BitVec.ofNat 8 (a.toNat + b.toNat + cin.toNat) == 0
        n := false
        h := decide (15 < a.toNat % 16 + b.toNat % 16 + cin.toNat)
        c := decide (255 < a.toNat + b.toNat + cin.toNat) } := by
  unfold add8
  rw [nibble_toNat, nibble_toNat]

theorem sub_sub_eq_ofNat (a b : Byte) (c : Bool) :
    a - b - BitVec.ofNat 8 c.toNat = BitVec.ofNat 8 (a.toNat + 256 - b.toNat - c.toNat) := by
  have hb := b.isLt
  have hc := c.toNat_le
  apply BitVec.eq_of_toNat_eq
  rw [BitVec.toNat_sub, BitVec.toNat_sub, BitVec.toNat_ofNat, BitVec.toNat_ofNat]
  omega

theorem sub8_eq (a b : Byte) (cin : Bool) :
    sub8 a b cin =
      { r := BitVec.ofNat 8 (a.toNat + 256 - b.toNat - cin.toNat)
        z := BitVec.ofNat 8 (a.toNat + 256 - b.toNat - cin.toNat) == 0
        n := true
        h := decide (a.toNat % 16 < b.toNat % 16 + cin.toNat)
        c := decide (a.toNat < b.toNat + cin.toNat) } := by
  unfold sub8
  rw [nibble_toNat, nibble_toNat, sub_sub_eq_ofNat]

/-- Equal bytes are those whose difference is zero (the Z of CP). -/
theorem sub8_z (a b : Byte) : (sub8 a b false).z = decide (a.toNat = b.toNat) := by
  have ha := a.isLt
  have hb := b.isLt
  rw [sub8_eq, Bool.eq_iff_iff, beq_iff_eq, decide_eq_true_eq, ← BitVec.toNat_inj, BitVec.toNat_ofNat]
  change (a.toNat + 256 - b.toNat) % 256 = 0 ↔ a.toNat = b.toNat
  omega

/-- In a sum, the operands and the result differ at bit 4 by the carry that enters it. -/
theorem xor_getLsbD_four_of_sum {a b r : Byte} {c : Bool} (h : r = BitVec.ofNat 8 (a.toNat + b.toNat + c.toNat)) :
    (a ^^^ b ^^^ r).getLsbD 4 = decide (15 < a.toNat % 16 + b.toNat % 16 + c.toNat) := by
  have hr : r = a + b + BitVec.setWidth 8 (BitVec.ofBool c) := by
    rw [h, BitVec.ofNat_add, BitVec.ofNat_add, BitVec.ofNat_toNat, BitVec.ofNat_toNat, BitVec.setWidth_eq,
      BitVec.setWidth_eq]
    cases c <;> rfl
  have hcarry : BitVec.carry 4 a b c = decide (15 < a.toNat % 16 + b.toNat % 16 + c.toNat) := rfl
  rw [BitVec.getLsbD_xor, BitVec.getLsbD_xor, hr, BitVec.getLsbD_add_add_bool (by decide), hcarry]
  cases a.getLsbD 4 <;> cases b.getLsbD 4 <;> simp

theorem toNat_decide (p : Prop) [Decidable p] : (decide p).toNat = if p then 1 else 0 := by
  by_cases h : p <;> simp [h]

/-- Settles O28: the sum is `add8_eq`; of a difference the minuend is the sum of the rest, so both half carries are the
carry into bit 4 (`xor_getLsbD_four_of_sum`). -/
theorem addAndSubtractExact : Obligations.AddAndSubtractExact := by
  unfold Obligations.AddAndSubtractExact
  intro a b cin
  have ha := a.isLt
  have hb := b.isLt
  have hc := cin.toNat_le
  rw [add8_eq, sub8_eq]
  refine ⟨⟨?_, (xor_getLsbD_four_of_sum rfl).symm, beq_iff_eq, rfl⟩, ⟨?_, ?_, beq_iff_eq, rfl⟩⟩
  · rw [BitVec.toNat_ofNat, toNat_decide]
    split <;> omega
  · rw [BitVec.toNat_ofNat, toNat_decide]
    split <;> omega
  · generalize hr : BitVec.ofNat 8 (a.toNat + 256 - b.toNat - cin.toNat) = r
    have hrn : r.toNat = (a.toNat + 256 - b.toNat - cin.toNat) % 256 := by rw [← hr, BitVec.toNat_ofNat]
    have hsum : a = BitVec.ofNat 8 (r.toNat + b.toNat + cin.toNat) := by
      apply BitVec.eq_of_toNat_eq
      rw [BitVec.toNat_ofNat]
      omega
    have hcomm : a ^^^ b ^^^ r = r ^^^ b ^^^ a := by
      rw [BitVec.xor_comm, BitVec.xor_comm a b, ← BitVec.xor_assoc]
    rw [hcomm, xor_getLsbD_four_of_sum hsum, decide_eq_decide]
    omega

/-! ### The operations on A -/

/-- What an operation with the operand `v` makes of A and F of `s`, in the words of the statements: the sums and
differences in integers, the logic operations bit by bit. -/
def AluGives (op : AluOp) (v : Byte) (s t : State) : Prop :=
  let a := s.A.toNat
  let b := v.toNat
  let c := s.fC.toNat
  match op with
  | .add => t.A = BitVec.ofNat 8 (a + b) ∧
    t.flagsAre (t.A == 0) false (decide (15 < a % 16 + b % 16)) (decide (255 < a + b))
  | .adc => t.A = BitVec.ofNat 8 (a + b + c) ∧
    t.flagsAre (t.A == 0) false (decide (15 < a % 16 + b % 16 + c)) (decide (255 < a + b + c))
  | .sub => t.A = BitVec.ofNat 8 (a + 256 - b) ∧
    t.flagsAre (t.A == 0) true (decide (a % 16 < b % 16)) (decide (a < b))
  | .sbc => t.A = BitVec.ofNat 8 (a + 256 - b - c) ∧
    t.flagsAre (t.A == 0) true (decide (a % 16 < b % 16 + c)) (decide (a < b + c))
  | .and => (∀ i, i < 8 → t.A.getLsbD i = (s.A.getLsbD i && v.getLsbD i)) ∧ t.flagsAre (t.A == 0) false true false
  | .xor => (∀ i, i < 8 → t.A.getLsbD i = (s.A.getLsbD i != v.getLsbD i)) ∧ t.flagsAre (t.A == 0) false false false
  | .or => (∀ i, i < 8 → t.A.getLsbD i = (s.A.getLsbD i || v.getLsbD i)) ∧ t.flagsAre (t.A == 0) false false false
  | .cp => t.A = s.A ∧ t.flagsAre (decide (a = b)) true (decide (a % 16 < b % 16)) (decide (a < b))

theorem aluEffect_gives (op : AluOp) (v : Byte) (s : State) : AluGives op v s (aluEffect op v s) := by
  obtain ⟨-, hA, hF⟩ := aluEffect_spec op v s
  cases op with
  | add => rw [aluResult, add8_eq] at hA hF; exact ⟨hA, hA ▸ hF⟩
  | adc => rw [aluResult, add8_eq] at hA hF; exact ⟨hA, hA ▸ hF⟩
  | sub => rw [aluResult, sub8_eq] at hA hF; exact ⟨hA, hA ▸ hF⟩
  | sbc => rw [aluResult, sub8_eq] at hA hF; exact ⟨hA, hA ▸ hF⟩
  | and => exact ⟨fun i _ => by rw [hA]; exact BitVec.getLsbD_and, hA ▸ hF⟩
  | xor => exact ⟨fun i _ => by rw [hA]; exact BitVec.getLsbD_xor, hA ▸ hF⟩
  | or => exact ⟨fun i _ => by rw [hA]; exact BitVec.getLsbD_or, hA ▸ hF⟩
  | cp => rw [aluResult, sub8_z, sub8_eq] at hF; exact ⟨hA, hF⟩

/-- The frame of an operation is A and F; the count is set after it. -/
theorem aluEffect_setCycles (op : AluOp) (v : Byte) (s : State) (n : Nat) :
    let t := (aluEffect op v s).setCycles n
    t = { s with af := t.af, cycles := n } ∧ AluGives op v s t :=
  ⟨congrArg (State.setCycles · n) (aluEffect_spec op v s).1, aluEffect_gives op v s⟩

theorem exec_mkAlu_ok {op : AluOp} {src : R8} {s s1 : State} {v : Byte} (h : r8get src s = .ok (v, s1)) :
    ∃ t, exec (mkAlu op src) s = .next t ∧ t = { s1 with af := t.af, cycles := if src = .atHL then 2 else 1 } ∧
      AluGives op v s t := by
  obtain ⟨hframe, hgives⟩ := aluEffect_setCycles op v s1 (if src = .atHL then 2 else 1)
  refine ⟨_, ?_, hframe, ?_⟩
  · rw [exec_mkAlu, alu8, h, ok_bind, outcome_ok, cyclesOf_eq]
  · rw [r8get_ok h] at hgives ⊢
    exact hgives

theorem exec_mkAlu_error {op : AluOp} {src : R8} {s : State} {f : Fault} (h : r8get src s = .error f) :
    exec (mkAlu op src) s = .fault f := by
  rw [exec_mkAlu, alu8, h, error_bind, outcome_error]

/-- Settles O35: the operand is read, and the operation gives what `AluGives` says. -/
theorem aluArithmeticForms : Obligations.AluArithmeticForms := by
  unfold Obligations.AluArithmeticForms
  intro src s
  exact ⟨fun v s1 h => ⟨exec_mkAlu_ok (op := .add) h, exec_mkAlu_ok (op := .adc) h, exec_mkAlu_ok (op := .sub) h,
    exec_mkAlu_ok (op := .sbc) h, exec_mkAlu_ok (op := .cp) h⟩,
    fun op _ => ⟨fun _ => exec_mkAlu_error, encode_mkAlu op src⟩⟩

/-- Settles O36: the operand is read, and the operation gives what `AluGives` says. -/
theorem aluLogicForms : Obligations.AluLogicForms := by
  unfold Obligations.AluLogicForms
  intro src s
  exact ⟨fun v s1 h => ⟨exec_mkAlu_ok (op := .and) h, exec_mkAlu_ok (op := .xor) h, exec_mkAlu_ok (op := .or) h⟩,
    fun op _ => ⟨fun _ => exec_mkAlu_error, encode_mkAlu op src⟩⟩

/-- Settles O37: an immediate operation makes no access; its effect is the one of the register form. -/
theorem aluImmediateForms : Obligations.AluImmediateForms := by
  unfold Obligations.AluImmediateForms
  intro op n s
  obtain ⟨hframe, hgives⟩ := aluEffect_setCycles op n s 2
  refine ⟨⟨_, exec_mkAluImm op n s, hframe, ?_⟩, encode_mkAluImm op n⟩
  cases op <;> exact hgives

/-! ### Increment and decrement -/

/-- `INC` and `DEC` in one: an operand is read, and the result of `f` is written to it and to the flags. -/
def modify8 (f : Byte → Bool → AluResult) (r : R8) (s : State) : Except Fault State := do
  let (v, s) ← r8get r s
  let x := f v s.fC
  let s ← r8set r x.r s
  .ok ((s.setFlags x.z x.n x.h x.c).setCycles (cyclesOf r 1 3))

theorem inc8_eq_modify8 : inc8 = modify8 inc8Result := rfl

theorem dec8_eq_modify8 : dec8 = modify8 dec8Result := rfl

theorem inc8Result_eq (v : Byte) (fC : Bool) :
    inc8Result v fC =
      { r := v + 1, z := decide (v.toNat = 255), n := false, h := decide (v.toNat % 16 = 15), c := fC } := by
  have hz : ∀ v : Byte, (v + 1 == 0) = decide (v.toNat = 255) := by decide
  have hh : ((v &&& 0xF) == 0xF) = decide (v.toNat % 16 = 15) := by
    rw [← nibble_toNat, Bool.eq_iff_iff, beq_iff_eq, decide_eq_true_eq, ← BitVec.toNat_inj]; rfl
  rw [inc8Result, hz, hh]

theorem dec8Result_eq (v : Byte) (fC : Bool) :
    dec8Result v fC =
      { r := v - 1, z := decide (v.toNat = 1), n := true, h := decide (v.toNat % 16 = 0), c := fC } := by
  have hz : ∀ v : Byte, (v - 1 == 0) = decide (v.toNat = 1) := by decide
  have hh : ((v &&& 0xF) == 0) = decide (v.toNat % 16 = 0) := by
    rw [← nibble_toNat, Bool.eq_iff_iff, beq_iff_eq, decide_eq_true_eq, ← BitVec.toNat_inj]; rfl
  rw [dec8Result, hz, hh]

section
variable {f : Byte → Bool → AluResult} {r : R8} {s s1 s2 : State} {v : Byte} {e : Fault}

theorem modify8_get_error (hg : r8get r s = .error e) : outcome (modify8 f r s) = .fault e := by
  rw [modify8, hg, error_bind, outcome_error]

/-- After the operand is read, the write of the result decides the outcome; the read leaves the carry. -/
theorem modify8_of_get (hg : r8get r s = .ok (v, s1)) :
    let x := f v s.fC
    modify8 f r s = r8set r x.r s1 >>= fun s2 =>
      .ok ((s2.setFlags x.z x.n x.h x.c).setCycles (if r = .atHL then 3 else 1)) := by
  have hfC : s1.fC = s.fC := by rw [r8get_ok hg]; rfl
  rw [modify8, hg, ok_bind, cyclesOf_eq]
  dsimp only
  rw [hfC]

theorem modify8_ok (hg : r8get r s = .ok (v, s1)) (hs : r8set r (f v s.fC).r s1 = .ok s2) :
    let x := f v s.fC
    ∃ t, outcome (modify8 f r s) = .next t ∧ t = { s2 with af := t.af, cycles := if r = .atHL then 3 else 1 } ∧
      t.A = s2.A ∧ t.flagsAre x.z x.n x.h x.c := by
  intro x
  refine ⟨(s2.setFlags x.z x.n x.h x.c).setCycles (if r = .atHL then 3 else 1), ?_, rfl,
    State.setFlags_A s2 _ _ _ _, flagsAre_setFlags s2 _ _ _ _⟩
  rw [modify8_of_get hg, hs, ok_bind, outcome_ok]

theorem modify8_set_error (hg : r8get r s = .ok (v, s1)) (hs : r8set r (f v s.fC).r s1 = .error e) :
    outcome (modify8 f r s) = .fault e := by
  rw [modify8_of_get hg, hs, error_bind, outcome_error]

end

/-- Settles O38: both are `modify8`; the flags are those of `inc8Result_eq` and `dec8Result_eq`. -/
theorem incDecByteForms : Obligations.IncDecByteForms := by
  unfold Obligations.IncDecByteForms
  intro r s
  rw [exec_mkInc8, exec_mkDec8, inc8_eq_modify8, dec8_eq_modify8]
  refine ⟨fun v s1 s2 hg hs => ?_, fun v s1 s2 hg hs => ?_, fun f hg => ⟨modify8_get_error hg, modify8_get_error hg⟩,
    fun v s1 f hg => ⟨modify8_set_error (f := inc8Result) hg, modify8_set_error (f := dec8Result) hg⟩,
    encode_mkInc8 r, encode_mkDec8 r⟩
  · have h := modify8_ok (f := inc8Result) hg hs
    rwa [inc8Result_eq] at h
  · have h := modify8_ok (f := dec8Result) hg hs
    rwa [dec8Result_eq] at h

/-! ### Decimal adjustment -/

theorem daaResult_flags (a : Byte) (fN fH fC : Bool) :
    (daaResult a fN fH fC).z = ((daaResult a fN fH fC).r == 0) ∧ (daaResult a fN fH fC).n = fN ∧
      (daaResult a fN fH fC).h = false := by
  cases fN <;> exact ⟨rfl, rfl, rfl⟩

theorem ite_add_eq_ofNat (p : Prop) [Decidable p] (a b : Byte) :
    (if p then a + b else a) = BitVec.ofNat 8 (a.toNat + if p then b.toNat else 0) := by
  split
  · rw [BitVec.ofNat_add, BitVec.ofNat_toNat, BitVec.ofNat_toNat, BitVec.setWidth_eq, BitVec.setWidth_eq]
  · rw [Nat.add_zero, BitVec.ofNat_toNat, BitVec.setWidth_eq]

theorem ite_sub_eq_ofNat (p : Prop) [Decidable p] (a b : Byte) :
    (if p then a - b else a) = BitVec.ofNat 8 (a.toNat + 256 - if p then b.toNat else 0) := by
  have hb := b.isLt
  apply BitVec.eq_of_toNat_eq
  split
  · rw [BitVec.toNat_sub, BitVec.toNat_ofNat]; omega
  · rw [BitVec.toNat_ofNat]; omega

/-- After an addition 0x60 and 0x06 are added; 0x60 leaves the low digit, so both tests are about `a`. -/
theorem daaResult_of_add (a : Byte) (fH fC : Bool) :
    (daaResult a false fH fC).c = decide (fC = true ∨ 0x99 < a.toNat) ∧
      (daaResult a false fH fC).r = BitVec.ofNat 8 (a.toNat + (if fC = true ∨ 0x99 < a.toNat then 0x60 else 0) +
        (if fH = true ∨ 9 < a.toNat % 16 then 0x06 else 0)) := by
  have hdigit : ∀ h : Nat, h % 16 = 0 → (BitVec.ofNat 8 (a.toNat + h)).toNat % 16 = a.toNat % 16 := by
    intro h h0; rw [BitVec.toNat_ofNat]; omega
  have hhigh : (if fC = true ∨ 0x99 < a.toNat then 0x60 else 0) % 16 = 0 := by split <;> rfl
  have h60 : (0x60 : Byte).toNat = 0x60 := rfl
  have h06 : (0x06 : Byte).toNat = 0x06 := rfl
  refine ⟨by simp [daaResult], ?_⟩
  simp only [daaResult, Bool.false_eq_true, if_false, nibble_toNat, Bool.or_eq_true, decide_eq_true_eq, gt_iff_lt]
  rw [ite_add_eq_ofNat _ a 0x60, h60, hdigit _ hhigh, ite_add_eq_ofNat _ _ 0x06, h06]
  apply BitVec.eq_of_toNat_eq
  simp only [BitVec.toNat_ofNat]
  omega

/-- After a subtraction 0x60 and 0x06 are subtracted, by the flags alone. -/
theorem daaResult_of_sub (a : Byte) (fH fC : Bool) :
    (daaResult a true fH fC).c = fC ∧
      (daaResult a true fH fC).r = BitVec.ofNat 8 (a.toNat + 0x200 - (if fC = true then 0x60 else 0) -
        (if fH = true then 0x06 else 0)) := by
  have h60 : (0x60 : Byte).toNat = 0x60 := rfl
  have h06 : (0x06 : Byte).toNat = 0x06 := rfl
  refine ⟨rfl, ?_⟩
  simp only [daaResult, if_true]
  rw [ite_sub_eq_ofNat _ a 0x60, h60, ite_sub_eq_ofNat _ _ 0x06, h06]
  apply BitVec.eq_of_toNat_eq
  simp only [BitVec.toNat_ofNat]
  split <;> split <;> omega

/-- The meaning of DAA: A, the flags and the frame. -/
theorem exec_daa (s : State) :
    let x := daaResult s.A s.fN s.fH s.fC
    ∃ t, exec .daa s = .next t ∧ t = { s with af := t.af, cycles := 1 } ∧ t.A = x.r ∧
      t.flagsAre (t.A == 0) s.fN false x.c := by
  intro x
  obtain ⟨hz, hn, hh⟩ := daaResult_flags s.A s.fN s.fH s.fC
  refine ⟨((s.setA x.r).setFlags x.z x.n x.h x.c).setCycles 1, rfl, rfl, by simp, ?_⟩
  simp [State.flagsAre, x, hz, hn, hh]

/-- Settles O39: `exec_daa`, with `daaResult_of_add` after an addition and `daaResult_of_sub` after a subtraction. -/
theorem daaForm : Obligations.DaaForm := by
  unfold Obligations.DaaForm
  refine ⟨rfl, fun s => ?_⟩
  obtain ⟨t, he, hframe, hA, hF⟩ := exec_daa s
  refine ⟨t, he, hframe, fun hN => ?_, fun hN => ?_⟩
  · rw [hN] at hA hF
    obtain ⟨hc, hr⟩ := daaResult_of_add s.A s.fH s.fC
    rw [hc] at hF
    exact ⟨hF, hA.trans hr⟩
  · rw [hN] at hA hF
    obtain ⟨hc, hr⟩ := daaResult_of_sub s.A s.fH s.fC
    rw [hc] at hF
    exact ⟨hF, hA.trans hr⟩

/-- The two digits of a number below 100, in decimal and in its byte. -/
theorem exists_digits {x : Nat} (h : x < 100) :
    ∃ hi lo, hi ≤ 9 ∧ lo ≤ 9 ∧ x = 10 * hi + lo ∧ (bcd x).toNat = 16 * hi + lo := by
  have hhi : x / 10 ≤ 9 := by omega
  refine ⟨x / 10, x % 10, hhi, by omega, by omega, ?_⟩
  rw [bcd, BitVec.toNat_ofNat, Nat.mod_eq_of_lt (Nat.lt_succ_of_le hhi)]
  omega

/-- A byte with two decimal digits is the byte of their number. -/
theorem ofNat_eq_bcd {b n : Nat} (hi lo : Nat) (h : hi ≤ 9 ∧ lo ≤ 9 ∧ b % 256 = 16 * hi + lo ∧ n = 10 * hi + lo) :
    BitVec.ofNat 8 b = bcd n := by
  obtain ⟨hhi, hlo, hb, hn⟩ := h
  have hdiv : n / 10 = hi := by omega
  have hmod : n % 10 = lo := by omega
  rw [bcd, hdiv, hmod, Nat.mod_eq_of_lt (Nat.lt_succ_of_le hhi), Nat.mul_comm, ← hb]
  exact BitVec.eq_of_toNat_eq (by simp)

/-- From the sum `hi` of the high digits and the sum `lo` of the low ones, with the carry in, DAA makes the decimal sum:
0x06 carries out of a low digit above 9, 0x60 out of a high one. -/
theorem daaResult_digit_sums {hi lo : Nat} (hhi : hi ≤ 18) (hlo : lo ≤ 19) :
    let q := daaResult (BitVec.ofNat 8 (16 * hi + lo)) false (decide (15 < lo)) (decide (255 < 16 * hi + lo))
    q.r = bcd ((10 * hi + lo) % 100) ∧ q.c = decide (100 ≤ 10 * hi + lo) := by
  obtain ⟨hc, hr⟩ := daaResult_of_add (BitVec.ofNat 8 (16 * hi + lo)) (decide (15 < lo)) (decide (255 < 16 * hi + lo))
  have hhigh : 255 < 16 * hi + lo ∨ 0x99 < (16 * hi + lo) % 2 ^ 8 ↔ 100 ≤ 10 * hi + lo := by omega
  have hlow : 15 < lo ∨ 9 < (16 * hi + lo) % 2 ^ 8 % 16 ↔ 9 < lo := by omega
  simp only [BitVec.toNat_ofNat, decide_eq_true_eq, hhigh, hlow] at hc hr
  refine ⟨hr.trans ?_, hc⟩
  by_cases hH : 100 ≤ 10 * hi + lo <;> by_cases hL : 9 < lo
  · rw [if_pos hH, if_pos hL]; exact ofNat_eq_bcd (hi - 9) (lo - 10) (by omega)
  · rw [if_pos hH, if_neg hL]; exact ofNat_eq_bcd (hi - 10) lo (by omega)
  · rw [if_neg hH, if_pos hL]; exact ofNat_eq_bcd (hi + 1) (lo - 10) (by omega)
  · rw [if_neg hH, if_neg hL]; exact ofNat_eq_bcd hi lo (by omega)

/-- From the difference of the high digits and the difference of the low ones, with the borrow in, each given ten more
than it is (`hi`, `lo`), DAA makes the decimal difference: 0x06 makes good the borrow of a low digit below 0, 0x60 that of
a high one. -/
theorem daaResult_digit_differences {hi lo : Nat} (hhi : hi ≤ 19) (hpos : 1 ≤ hi) (hlo : lo ≤ 19) :
    let q := daaResult (BitVec.ofNat 8 (16 * hi + lo + 86)) true (decide (lo < 10)) (decide (10 * hi + lo < 110))
    q.r = bcd ((10 * hi + lo - 10) % 100) ∧ q.c = decide (10 * hi + lo < 110) := by
  obtain ⟨hc, hr⟩ := daaResult_of_sub (BitVec.ofNat 8 (16 * hi + lo + 86)) (decide (lo < 10)) (decide (10 * hi + lo < 110))
  simp only [BitVec.toNat_ofNat, decide_eq_true_eq] at hr
  refine ⟨hr.trans ?_, hc⟩
  by_cases hH : 10 * hi + lo < 110 <;> by_cases hL : lo < 10
  · rw [if_pos hH, if_pos hL]; exact ofNat_eq_bcd (hi - 1) lo (by omega)
  · rw [if_pos hH, if_neg hL]; exact ofNat_eq_bcd hi (lo - 10) (by omega)
  · rw [if_neg hH, if_pos hL]; exact ofNat_eq_bcd (hi - 11) lo (by omega)
  · rw [if_neg hH, if_neg hL]; exact ofNat_eq_bcd (hi - 10) (lo - 10) (by omega)

/-- The decimal adjustment of a sum of decimal bytes is their decimal sum, with the decimal carry. -/
theorem daaResult_add8_bcd {x y : Nat} (hx : x < 100) (hy : y < 100) (cin : Bool) :
    let p := add8 (bcd x) (bcd y) cin
    let q := daaResult p.r p.n p.h p.c
    q.r = bcd ((x + y + cin.toNat) % 100) ∧ q.c = decide (100 ≤ x + y + cin.toNat) := by
  have hc := cin.toNat_le
  obtain ⟨xh, xl, hxh, hxl, hxd, hxb⟩ := exists_digits hx
  obtain ⟨yh, yl, hyh, hyl, hyd, hyb⟩ := exists_digits hy
  have hbyte : 16 * xh + xl + (16 * yh + yl) + cin.toNat = 16 * (xh + yh) + (xl + yl + cin.toNat) := by omega
  have hsum : x + y + cin.toNat = 10 * (xh + yh) + (xl + yl + cin.toNat) := by omega
  have hxlow : (16 * xh + xl) % 16 = xl := by omega
  have hylow : (16 * yh + yl) % 16 = yl := by omega
  rw [add8_eq, hxb, hyb, hbyte, hsum, hxlow, hylow]
  exact daaResult_digit_sums (by omega) (by omega)

/-- The decimal adjustment of a difference of decimal bytes is their decimal difference, with the decimal borrow. -/
theorem daaResult_sub8_bcd {x y : Nat} (hx : x < 100) (hy : y < 100) (cin : Bool) :
    let p := sub8 (bcd x) (bcd y) cin
    let q := daaResult p.r p.n p.h p.c
    q.r = bcd ((x + 100 - y - cin.toNat) % 100) ∧ q.c = decide (x < y + cin.toNat) := by
  have hc := cin.toNat_le
  obtain ⟨xh, xl, hxh, hxl, hxd, hxb⟩ := exists_digits hx
  obtain ⟨yh, yl, hyh, hyl, hyd, hyb⟩ := exists_digits hy
  obtain ⟨hi, hhi⟩ : ∃ hi, hi + yh = xh + 10 := ⟨xh + 10 - yh, by omega⟩
  obtain ⟨lo, hlo⟩ : ∃ lo, lo + yl + cin.toNat = xl + 10 := ⟨xl + 10 - yl - cin.toNat, by omega⟩
  have hbyte : 16 * xh + xl + 256 - (16 * yh + yl) - cin.toNat = 16 * hi + lo + 86 := by omega
  have hdiff : x + 100 - y - cin.toNat = 10 * hi + lo - 10 := by omega
  have hborrow : x < y + cin.toNat ↔ 10 * hi + lo < 110 := by omega
  have hlow : (16 * xh + xl) % 16 < (16 * yh + yl) % 16 + cin.toNat ↔ lo < 10 := by omega
  have hhigh : 16 * xh + xl < 16 * yh + yl + cin.toNat ↔ 10 * hi + lo < 110 := by omega
  rw [sub8_eq, hxb, hyb, hbyte, hdiff, decide_eq_decide.2 hlow, decide_eq_decide.2 hhigh, decide_eq_decide.2 hborrow]
  exact daaResult_digit_differences (by omega) (by omega) (by omega)

/-- DAA after an immediate operation that writes A adjusts the result of the operation, by its flags. -/
theorem exec_mkAluImm_daa {op : AluOp} {n r : Byte} {c : Bool} {s : State} (hw : aluWrites op = true)
    (h : let p := aluResult op s.A n s.fC
      (daaResult p.r p.n p.h p.c).r = r ∧ (daaResult p.r p.n p.h p.c).c = c) :
    ∃ t u, exec (mkAluImm op n) s = .next t ∧ exec .daa t = .next u ∧ u.A = r ∧ u.fC = c := by
  obtain ⟨-, hA, -, hN, hH, hC⟩ := aluEffect_spec op n s
  rw [if_pos hw] at hA
  dsimp only at h
  rw [← hA, ← hN, ← hH, ← hC] at h
  obtain ⟨u, he, -, huA, -, -, -, huC⟩ := exec_daa ((aluEffect op n s).setCycles 2)
  exact ⟨(aluEffect op n s).setCycles 2, u, exec_mkAluImm op n s, he, huA.trans h.1, huC.trans h.2⟩

/-- Settles O29: DAA adjusts the byte of the operation (`exec_mkAluImm_daa`), which is the one of two decimal bytes. -/
theorem daaGivesDecimal : Obligations.DaaGivesDecimal := by
  unfold Obligations.DaaGivesDecimal
  intro x y s hx hy hA
  have hadd := daaResult_add8_bcd hx hy
  have hsub := daaResult_sub8_bcd hx hy
  rw [← hA] at hadd hsub
  exact ⟨exec_mkAluImm_daa rfl (hadd false), exec_mkAluImm_daa rfl (hadd s.fC), exec_mkAluImm_daa rfl (hsub false),
    exec_mkAluImm_daa rfl (hsub s.fC)⟩

/-! ### Complement and carry -/

/-- Settles O40: writes of A, N, H and C, each of which leaves what it does not name (`State.setFN_fZ` and its like). -/
theorem complementAndCarryForms : Obligations.ComplementAndCarryForms := by
  unfold Obligations.ComplementAndCarryForms
  exact ⟨⟨rfl, rfl, rfl⟩, fun s => ⟨⟨_, rfl, rfl, by simp, by simp [State.flagsAre]⟩,
    ⟨_, rfl, rfl, by simp, by simp [State.flagsAre]⟩, ⟨_, rfl, rfl, by simp, by simp [State.flagsAre]⟩⟩⟩

end Sys2Proof.Machine
end

section
/-! SUPPORT. 16-bit arithmetic (42_alu16.md R240 to R242): the law of ADD HL in terms of integers, and the forms. -/

namespace Sys2Proof.Machine

/-! ### The law of the sum in integers -/

/-- The bits below bit 12 are the remainder by 2^12. -/
theorem low12_toNat (w : Word) : (w &&& 0x0FFF).toNat = w.toNat % 0x1000 := by
  rw [BitVec.toNat_and]
  exact Nat.and_two_pow_sub_one_eq_mod w.toNat 12

theorem addHLResult_eq (a b : Word) :
    addHLResult a b =
      (BitVec.ofNat 16 (a.toNat + b.toNat), decide (0x0FFF < a.toNat % 0x1000 + b.toNat % 0x1000),
        decide (0xFFFF < a.toNat + b.toNat)) := by
  unfold addHLResult
  rw [low12_toNat, low12_toNat]

/-! ### The forms -/

/-- Settles O42: the sum is `addHLResult_eq`; the write of the flags gives Z back what it was and leaves A. -/
theorem addHLForms : Obligations.AddHLForms := by
  unfold Obligations.AddHLForms
  intro rp s a b
  refine ⟨?_, encode_mkAddHL rp⟩
  rw [exec_mkAddHL, addHL, addHLResult_eq]
  exact ⟨_, rfl, rfl, State.setFlags_A _ _ _ _ _, flagsAre_setFlags _ _ _ _ _⟩

/-- Settles O41: the new pair is `add_one_eq_ofNat` and `sub_one_eq_ofNat`; besides it the count alone is written. -/
theorem incDecPairForms : Obligations.IncDecPairForms := by
  unfold Obligations.IncDecPairForms
  intro rp s
  rw [exec_mkIncR16, exec_mkDecR16, incR16, decR16, add_one_eq_ofNat, sub_one_eq_ofNat]
  exact ⟨rfl, rfl, encode_mkIncR16 rp, encode_mkDecR16 rp⟩

end Sys2Proof.Machine
end

section
/-! SUPPORT. Jumps, calls and returns (43_jumps.md R260 to R270): a jump writes PC, a call pushes first, a return pops
first, and a meaning on a condition is the unconditional one or a count. -/

namespace Sys2Proof.Machine

/-! ### The targets -/

/-- The signed displacement, modulo 2^16 (43_jumps.md R263). -/
theorem add_sext16_eq_ofInt (w : Word) (e : Byte) : w + sext16 e = BitVec.ofInt 16 (w.toNat + e.toInt) := by
  rw [BitVec.ofInt_add, BitVec.ofInt_natCast, BitVec.ofNat_toNat, BitVec.setWidth_eq]
  rfl

theorem rstTarget_eq (k : Ix3) : rstTarget k = BitVec.ofNat 16 (8 * ix3Val k) := by
  cases k <;> rfl

/-! ### Conditions -/

section
variable {cc : Cond} {s : State}

/-- The outcome of a choice between two states. -/
theorem outcome_ite_ok (c : Bool) (t u : State) :
    outcome (if c then .ok t else .ok u) = .next (if c then t else u) := by
  cases c <;> rfl

theorem callIf_taken (n : Word) (h : s.holds cc = true) : callIf cc n s = call n s := if_pos h

theorem callIf_notTaken (n : Word) (h : s.holds cc = false) : callIf cc n s = .ok (s.setCycles 3) :=
  if_neg (ne_true_of_eq_false h)

theorem retIf_taken (h : s.holds cc = true) : retIf cc s = pop16 s >>= fun p => .ok ((p.2.setPC p.1).setCycles 5) :=
  if_pos h

theorem retIf_notTaken (h : s.holds cc = false) : retIf cc s = .ok (s.setCycles 2) :=
  if_neg (ne_true_of_eq_false h)

end

/-- RETI is RET with IME set on the way. -/
theorem retInterrupt_eq (s : State) :
    retInterrupt s = pop16 s >>= fun p => .ok (((p.2.setPC p.1).setIME true).setCycles 4) := by
  rw [retInterrupt, returnFromInterrupt]
  cases pop16 s <;> rfl

/-! ### A push or a pop, then a write of registers -/

section
variable {i : Instr} {s t : State} {w : Word} {f : Fault}

theorem exec_of_push {g : State → State} (he : exec i s = outcome (push16 w s >>= fun u => .ok (g u)))
    (h : pushWrites w s = .ok t) : exec i s = .next (g { t with sp := s.sp - 2 }) := by
  rw [he, push16_eq, h]
  rfl

theorem exec_of_push_error {g : State → State} (he : exec i s = outcome (push16 w s >>= fun u => .ok (g u)))
    (h : pushWrites w s = .error f) : exec i s = .fault f := by
  rw [he, push16_eq, h]
  rfl

theorem exec_of_pop {g : Word × State → State} (he : exec i s = outcome (pop16 s >>= fun p => .ok (g p)))
    (h : popReads s = .ok (w, t)) : exec i s = .next (g (w, { t with sp := s.sp + 2 })) := by
  rw [he, pop16_eq, h]
  rfl

theorem exec_of_pop_error {g : Word × State → State} (he : exec i s = outcome (pop16 s >>= fun p => .ok (g p)))
    (h : popReads s = .error f) : exec i s = .fault f := by
  rw [he, pop16_eq, h]
  rfl

end

/-! ### The forms -/

/-- Settles O43: each jump writes PC and the count; the target of a relative one is `add_sext16_eq_ofInt`. -/
theorem jumpForms : Obligations.JumpForms := by
  unfold Obligations.JumpForms
  intro s n e cc rel
  have hrel : s.pc + sext16 e = rel := add_sext16_eq_ofInt s.pc e
  rw [← hrel, exec_mkJpIf, exec_mkJrIf, jumpIf, jumpRelIf, outcome_ite_ok, outcome_ite_ok]
  exact ⟨⟨rfl, rfl⟩, ⟨rfl, encode_mkJpIf cc n⟩, ⟨rfl, rfl⟩, ⟨rfl, rfl⟩, rfl, encode_mkJrIf cc e⟩

/-- Settles O44: the three forms push PC (`exec_of_push`) and then write PC and the count. -/
theorem callForms : Obligations.CallForms := by
  unfold Obligations.CallForms
  intro s n cc k
  have hcall : exec (.call_n16 n) s = outcome (call n s) := rfl
  have hcallIf (hc : s.holds cc = true) : exec (mkCallIf cc n) s = outcome (call n s) := by
    rw [exec_mkCallIf, callIf_taken n hc]
  rw [← rstTarget_eq]
  refine ⟨fun s2 h => ⟨exec_of_push hcall h, fun hc => exec_of_push (hcallIf hc) h, exec_of_push (exec_mkRst k s) h⟩,
    fun f h => ⟨exec_of_push_error hcall h, fun hc => exec_of_push_error (hcallIf hc) h,
      exec_of_push_error (exec_mkRst k s) h⟩,
    fun hc => ?_, rfl, encode_mkCallIf cc n, encode_mkRst k⟩
  rw [exec_mkCallIf, callIf_notTaken n hc]
  rfl

/-- Settles O45: the three forms pop PC (`exec_of_pop`) and then write PC and the count, RETI IME as well. -/
theorem returnForms : Obligations.ReturnForms := by
  unfold Obligations.ReturnForms
  intro s cc
  have hret : exec .ret s = outcome (ret s) := rfl
  have hreti : exec .reti s = outcome _ := congrArg outcome (retInterrupt_eq s)
  have hretIf (hc : s.holds cc = true) := (exec_mkRetIf cc s).trans (congrArg outcome (retIf_taken hc))
  refine ⟨fun w s2 h => ⟨exec_of_pop hret h, fun hc => exec_of_pop (hretIf hc) h, exec_of_pop hreti h⟩,
    fun f h => ⟨exec_of_pop_error hret h, fun hc => exec_of_pop_error (hretIf hc) h, exec_of_pop_error hreti h⟩,
    fun hc => ?_, rfl, encode_mkRetIf cc, rfl⟩
  rw [exec_mkRetIf, retIf_notTaken hc]
  rfl

end Sys2Proof.Machine
end

section
/-! SUPPORT. The stack and SP (44_stack.md R290 to R293, R295, R296): a push stores a pair and a pop loads one, SP is
stored low byte first, and the two sums of SP share one law. -/

namespace Sys2Proof.Machine

/-! ### Push and pop -/

/-- Settles O46: a push is `exec_of_push` of the pair and a pop `exec_of_pop` into it; AF is masked by `State.setAF`. -/
theorem pushPopForms : Obligations.PushPopForms := by
  unfold Obligations.PushPopForms
  intro rs s
  refine ⟨fun s2 h => exec_of_push (exec_mkPush rs s) h, fun f h => exec_of_push_error (exec_mkPush rs s) h,
    fun w s2 h => ?_, fun f h => exec_of_pop_error (exec_mkPop rs s) h, encode_mkPush rs, encode_mkPop rs⟩
  rw [exec_of_pop (exec_mkPop rs s) h]
  cases rs <;> rfl

/-! ### The store of SP -/

/-- The first write leaves SP, so both bytes stored are those of SP before the instruction (R293). -/
theorem storeSP_eq (n : Word) (s : State) :
    storeSP n s = busWrite n (loByte s.sp) s >>= fun s1 =>
      busWrite (n + 1) (hiByte s.sp) s1 >>= fun s2 => .ok (s2.setCycles 5) := by
  rw [storeSP]
  cases h : busWrite n (loByte s.sp) s with
  | error f => rfl
  | ok s1 =>
    have hsp : s1.sp = s.sp := by rw [(busWrite_ok h).1]
    rw [ok_bind, ok_bind, hsp]

/-! ### The sums of SP and a signed displacement -/

theorem low4_toNat (w : Word) : (w &&& 0x0F).toNat = w.toNat % 16 := by
  rw [BitVec.toNat_and]
  exact Nat.and_two_pow_sub_one_eq_mod w.toNat 4

theorem low8_toNat (w : Word) : (w &&& 0xFF).toNat = w.toNat % 256 := by
  rw [BitVec.toNat_and]
  exact Nat.and_two_pow_sub_one_eq_mod w.toNat 8

/-- The sum takes the displacement as signed, the two carries take it as a byte (R290). -/
theorem spPlusE8_eq (sp : Word) (e : Byte) :
    spPlusE8 sp e =
      (BitVec.ofInt 16 (sp.toNat + e.toInt), decide (15 < sp.toNat % 16 + e.toNat % 16),
        decide (255 < sp.toNat % 256 + e.toNat)) := by
  unfold spPlusE8
  rw [add_sext16_eq_ofInt, low4_toNat, low8_toNat, nibble_toNat]

/-! ### The forms -/

/-- Settles O47: the two writes of `storeSP_eq` in their order; both sums are `spPlusE8_eq`, and the write of the flags
leaves A. -/
theorem stackPointerForms : Obligations.StackPointerForms := by
  unfold Obligations.StackPointerForms
  intro s n e sum half carry
  have hstore : exec (.ld_atn16_SP n) s = outcome (storeSP n s) := rfl
  have hadd : exec (.add_SP_e8 e) s = outcome (addSPe8 e s) := rfl
  have hload : exec (.ld_HL_SPe8 e) s = outcome (loadHLSPe8 e s) := rfl
  rw [hstore, storeSP_eq, hadd, addSPe8, hload, loadHLSPe8, spPlusE8_eq]
  refine ⟨fun s1 s2 h1 h2 => ?_, fun f h => ?_, fun s1 f h1 h2 => ?_,
    ⟨_, rfl, rfl, State.setFlags_A _ _ _ _ _, flagsAre_setFlags _ _ _ _ _⟩,
    ⟨_, rfl, rfl, State.setFlags_A _ _ _ _ _, flagsAre_setFlags _ _ _ _ _⟩, rfl, rfl, rfl⟩
  · rw [h1, ok_bind, h2]; rfl
  · rw [h, error_bind, outcome_error]
  · rw [h1, ok_bind, h2, error_bind, outcome_error]

end Sys2Proof.Machine
end

section
/-! SUPPORT. Rotates, shifts and bit operations (45_bitops.md R310 to R336): one bit of a byte, the shift and rotate unit in
integers and as `rotateIs` names its results, and the forms, which read an operand and write it back. -/

namespace Sys2Proof.Machine

/-! ### One bit of a byte -/

theorem getLsbD_seven (v : Byte) : v.getLsbD 7 = decide (128 ≤ v.toNat) := BitVec.msb_eq_decide v

theorem getLsbD_zero (v : Byte) : v.getLsbD 0 = decide (v.toNat % 2 = 1) := Nat.testBit_zero v.toNat

theorem getLsbD_seven_toNat (v : Byte) : (v.getLsbD 7).toNat = v.toNat / 128 := by
  have hv := v.isLt
  rw [getLsbD_seven, toNat_decide]
  split <;> omega

theorem getLsbD_zero_toNat (v : Byte) : (v.getLsbD 0).toNat = v.toNat % 2 := by
  rw [getLsbD_zero, toNat_decide]
  split <;> omega

theorem one_shiftLeft_getLsbD {i : Nat} (hi : i < 8) (n : Nat) : (1#8 <<< n).getLsbD i = decide (i = n) := by
  rw [← BitVec.twoPow_eq, BitVec.getLsbD_twoPow, Bool.eq_iff_iff, Bool.and_eq_true]
  simp only [decide_eq_true_eq]
  omega

theorem bitAt_getLsbD (b : Bool) {i : Nat} (hi : i < 8) (n : Nat) : (bitAt b n).getLsbD i = (b && decide (i = n)) := by
  cases b with
  | false => exact BitVec.getLsbD_zero
  | true => exact one_shiftLeft_getLsbD hi n

theorem bitAt_toNat (b : Bool) {n : Nat} (hn : n < 8) : (bitAt b n).toNat = b.toNat * 2 ^ n := by
  cases b with
  | false => rw [Bool.toNat_false, Nat.zero_mul]; rfl
  | true =>
    rw [bitAt, if_pos rfl, ← BitVec.twoPow_eq, BitVec.toNat_twoPow_eq_ite, if_pos hn, Bool.toNat_true, Nat.one_mul]

/-- A bit put where a byte has none adds its weight. -/
theorem or_bitAt_toNat {v : Byte} {n : Nat} (hn : n < 8) (hv : v.getLsbD n = false) (b : Bool) :
    (v ||| bitAt b n).toNat = (v.toNat + b.toNat * 2 ^ n) % 256 := by
  have hdisjoint : v &&& bitAt b n = 0 := by
    apply BitVec.eq_of_getLsbD_eq
    intro i hi
    rw [BitVec.getLsbD_and, bitAt_getLsbD b hi]
    by_cases hin : i = n
    · rw [hin, hv]; simp
    · simp [hin]
  rw [← BitVec.add_eq_or_of_and_eq_zero v _ hdisjoint, BitVec.toNat_add, bitAt_toNat b hn]

/-- The mask of RES (R333): `w` is `v` with bit `n` cleared. -/
theorem and_not_one_shiftLeft_eq {v w : Byte} {n : Nat}
    (h : ∀ i, i < 8 → w.getLsbD i = if i = n then false else v.getLsbD i) :
    v &&& ~~~(1#8 <<< n) = w := by
  apply BitVec.eq_of_getLsbD_eq
  intro i hi
  rw [h i hi, BitVec.getLsbD_and, BitVec.getLsbD_not, one_shiftLeft_getLsbD hi]
  by_cases hin : i = n <;> simp [hin, hi]

/-- The mask of SET (R335): `w` is `v` with bit `n` set. -/
theorem or_one_shiftLeft_eq {v w : Byte} {n : Nat}
    (h : ∀ i, i < 8 → w.getLsbD i = if i = n then true else v.getLsbD i) :
    v ||| 1#8 <<< n = w := by
  apply BitVec.eq_of_getLsbD_eq
  intro i hi
  rw [h i hi, BitVec.getLsbD_or, one_shiftLeft_getLsbD hi]
  by_cases hin : i = n <;> simp [hin]

/-! ### The shift and rotate unit -/

theorem shiftLeft_or_bitAt (v : Byte) (b : Bool) : (v <<< 1 ||| bitAt b 0).toNat = (2 * v.toNat + b.toNat) % 256 := by
  rw [or_bitAt_toNat (by decide) (by simp), BitVec.toNat_shiftLeft, Nat.shiftLeft_eq]
  omega

theorem ushiftRight_or_bitAt (v : Byte) (b : Bool) : (v >>> 1 ||| bitAt b 7).toNat = v.toNat / 2 + 128 * b.toNat := by
  have hv := v.isLt
  have hb := b.toNat_lt
  rw [or_bitAt_toNat (by decide) (by simp), BitVec.toNat_ushiftRight, Nat.shiftRight_eq_div_pow]
  omega

/-- The bit a left rotation carries round is bit 7. -/
theorem rotateLeft_one (v : Byte) : v.rotateLeft 1 = v <<< 1 ||| bitAt (v.getLsbD 7) 0 := by
  have hbit : v >>> 7 = bitAt (v.getLsbD 7) 0 := by
    apply BitVec.eq_of_toNat_eq
    rw [bitAt_toNat _ (by decide), getLsbD_seven_toNat, BitVec.toNat_ushiftRight, Nat.shiftRight_eq_div_pow]
    omega
  rw [← hbit]; rfl

/-- The bit a right rotation carries round is bit 0. -/
theorem rotateRight_one (v : Byte) : v.rotateRight 1 = v >>> 1 ||| bitAt (v.getLsbD 0) 7 := by
  have hbit : v <<< 7 = bitAt (v.getLsbD 0) 7 := by
    apply BitVec.eq_of_toNat_eq
    rw [bitAt_toNat _ (by decide), getLsbD_zero_toNat, BitVec.toNat_shiftLeft, Nat.shiftLeft_eq]
    omega
  rw [← hbit]; rfl

theorem sshiftRight_one (v : Byte) : v.sshiftRight 1 = v >>> 1 ||| v &&& 0x80 := by
  revert v; decide

/-- The unit computes the table of R314. -/
theorem cbrot_of_rotateIs {k : RotOp} {v res : Byte} {fC c : Bool} (h : rotateIs k v fC res c) :
    cbrot k v fC = (res, c) := by
  cases k <;> obtain ⟨rfl, rfl⟩ := h <;> refine Prod.ext ?_ rfl
  case rlc => exact (rotateLeft_one v).symm
  case rrc => exact (rotateRight_one v).symm
  case rl => exact BitVec.eq_of_toNat_eq (shiftLeft_or_bitAt v fC)
  case rr => rw [← ushiftRight_or_bitAt, BitVec.ofNat_toNat, BitVec.setWidth_eq]; rfl
  case sla => exact (BitVec.shiftLeft_eq_mul_twoPow v 1).trans BitVec.mul_two
  case sra => exact (sshiftRight_one v).symm
  case swap => rfl
  case srl => exact ((BitVec.ofNat_toNat 8 (v >>> 1)).trans (BitVec.setWidth_eq _)).symm

/-! ### The rotates of A -/

/-- R310 to R313: the result in A and the bit shifted out in fC, the other flags cleared. -/
theorem rotateA_gives {k : RotOp} {s : State} {n : Nat} {c : Bool} (hn : (cbrot k s.A s.fC).1.toNat = n)
    (hc : (cbrot k s.A s.fC).2 = c) :
    ∃ t, outcome (rotateA k s) = .next t ∧ t = { s with af := t.af, cycles := 1 } ∧ t.A.toNat = n ∧
      t.flagsAre false false false c := by
  subst hn hc
  refine ⟨((s.setA (cbrot k s.A s.fC).1).setFlags false false false (cbrot k s.A s.fC).2).setCycles 1, rfl, rfl, ?_,
    flagsAre_setFlags _ _ _ _ _⟩
  rw [State.setCycles_A, State.setFlags_A, State.setA_A]

/-- Settles O48: `rotateA_gives` with the two laws of the unit in integers, `shiftLeft_or_bitAt` and
`ushiftRight_or_bitAt`. -/
theorem accumulatorRotates : Obligations.AccumulatorRotates := by
  unfold Obligations.AccumulatorRotates
  refine ⟨⟨rfl, rfl, rfl, rfl⟩, fun s => ?_⟩
  rw [← getLsbD_seven, ← getLsbD_zero, ← getLsbD_seven_toNat, ← getLsbD_zero_toNat]
  exact ⟨rotateA_gives (k := .rlc) (shiftLeft_or_bitAt s.A _) rfl,
    rotateA_gives (k := .rrc) (ushiftRight_or_bitAt s.A _) rfl,
    rotateA_gives (k := .rl) (shiftLeft_or_bitAt s.A _) rfl,
    rotateA_gives (k := .rr) (ushiftRight_or_bitAt s.A _) rfl⟩

/-! ### The meanings after the operand is read -/

section
variable {r : R8} {s s1 : State} {v : Byte}

theorem A_of_r8get (hg : r8get r s = .ok (v, s1)) : s1.A = s.A := by rw [r8get_ok hg]; rfl

theorem fC_of_r8get (hg : r8get r s = .ok (v, s1)) : s1.fC = s.fC := by rw [r8get_ok hg]; rfl

/-- The read leaves HL, so a write of `[HL]` after it goes to the same address. -/
theorem r8set_atHL_of_get (hg : r8get .atHL s = .ok (v, s1)) (w : Byte) : r8set .atHL w s1 = busWrite s.hl w s1 := by
  rw [r8get_ok hg]; rfl

/-- The byte written and the flags are those of `rotateIs`, with the carry from before the read. -/
theorem rotate8_of_get {k : RotOp} {res : Byte} {c : Bool} (hg : r8get r s = .ok (v, s1))
    (h : rotateIs k v s.fC res c) :
    rotate8 k r s = r8set r res s1 >>= fun s2 =>
      .ok ((s2.setFlags (decide (res = 0)) false false c).setCycles (if r = .atHL then 4 else 2)) := by
  rw [rotate8, hg, ok_bind, cyclesOf_eq]
  dsimp only
  rw [fC_of_r8get hg, cbrot_of_rotateIs h]
  rfl

/-- The read is all a BIT does to the operand; the carry is the one from before it (R331). -/
theorem testBit_of_get (b : Ix3) (hg : r8get r s = .ok (v, s1)) :
    testBit b r s = .ok ((s1.setFlags (!v.getLsbD (ix3Val b)) false true s.fC).setCycles
      (if r = .atHL then 3 else 2)) := by
  rw [testBit, hg, ok_bind, cyclesOf_eq]
  dsimp only
  rw [fC_of_r8get hg]

theorem resetBit_of_get {b : Ix3} {w : Byte} (hg : r8get r s = .ok (v, s1))
    (h : ∀ i, i < 8 → w.getLsbD i = if i = ix3Val b then false else v.getLsbD i) :
    resetBit b r s = r8set r w s1 >>= fun s2 => .ok (s2.setCycles (if r = .atHL then 4 else 2)) := by
  rw [resetBit, hg, ok_bind, cyclesOf_eq, ← and_not_one_shiftLeft_eq h]

theorem setBit_of_get {b : Ix3} {w : Byte} (hg : r8get r s = .ok (v, s1))
    (h : ∀ i, i < 8 → w.getLsbD i = if i = ix3Val b then true else v.getLsbD i) :
    setBit b r s = r8set r w s1 >>= fun s2 => .ok (s2.setCycles (if r = .atHL then 4 else 2)) := by
  rw [setBit, hg, ok_bind, cyclesOf_eq, ← or_one_shiftLeft_eq h]

end

/-! ### The forms -/

theorem exec_mkRot_ok {k : RotOp} {r : R8} {s s1 s2 : State} {v res : Byte} {c : Bool}
    (hg : r8get r s = .ok (v, s1)) (h : rotateIs k v s.fC res c) (hs : r8set r res s1 = .ok s2) :
    ∃ t, exec (mkRot k r) s = .next t ∧ t = { s2 with af := t.af, cycles := if r = .atHL then 4 else 2 } ∧
      t.A = s2.A ∧ t.flagsAre (decide (res = 0)) false false c := by
  rw [exec_mkRot, rotate8_of_get hg h, hs]
  exact ⟨_, rfl, rfl, State.setFlags_A _ _ _ _ _, flagsAre_setFlags _ _ _ _ _⟩

/-- Settles O49: `exec_mkRot_ok`, where the read of a register leaves the state. -/
theorem rotateRegisterForms : Obligations.RotateRegisterForms := by
  unfold Obligations.RotateRegisterForms
  intro k r s s2 v res c hr hg h hs
  have hok := exec_mkRot_ok hg h hs
  rw [if_neg hr] at hok
  exact ⟨hok, encode_mkRot k r⟩

/-- Settles O50: `exec_mkRot_ok` at `[HL]`, whose write leaves A; a rejected access ends the meaning. -/
theorem rotateMemoryForms : Obligations.RotateMemoryForms := by
  unfold Obligations.RotateMemoryForms
  intro k s
  have hget : r8get .atHL s = busRead s.hl s := rfl
  rw [← hget]
  refine ⟨fun s1 s2 v res c hg h hs => ?_, fun f hg => ?_, fun s1 v res c f hg h hs => ?_, encode_mkRot k .atHL⟩
  · rw [← r8set_atHL_of_get hg] at hs
    rw [← A_of_r8get hg, ← (r8set_frame hs).1 R8.noConfusion]
    exact exec_mkRot_ok hg h hs
  · rw [exec_mkRot, rotate8, hg, error_bind, outcome_error]
  · rw [exec_mkRot, rotate8_of_get hg h, r8set_atHL_of_get hg, hs, error_bind, outcome_error]

/-- Settles O51: `testBit_of_get`, whose write of the flags leaves A; a rejected read ends the meaning. -/
theorem bitTestForms : Obligations.BitTestForms := by
  unfold Obligations.BitTestForms
  intro b r s
  rw [exec_mkBit]
  refine ⟨fun v s1 hg => ?_, fun f hg => ?_, encode_mkBit b r⟩
  · rw [testBit_of_get b hg, ← A_of_r8get hg]
    exact ⟨_, rfl, rfl, State.setFlags_A _ _ _ _ _, flagsAre_setFlags _ _ _ _ _⟩
  · rw [testBit, hg, error_bind, outcome_error]

/-- Settles O52: after the read the byte written is the `w` of the statement, by `resetBit_of_get` and `setBit_of_get`;
a rejected access ends the meaning. -/
theorem bitWriteForms : Obligations.BitWriteForms := by
  unfold Obligations.BitWriteForms
  intro b r s
  rw [exec_mkRes, exec_mkSet]
  refine ⟨fun v w s1 s2 hg hs => ⟨fun hw => ?_, fun hw => ?_⟩, fun f hg => ⟨?_, ?_⟩,
    fun v w s1 f hg hs => ⟨fun hw => ?_, fun hw => ?_⟩, encode_mkRes b r, encode_mkSet b r⟩
  · rw [resetBit_of_get hg hw, hs]; rfl
  · rw [setBit_of_get hg hw, hs]; rfl
  · rw [resetBit, hg]; rfl
  · rw [setBit, hg]; rfl
  · rw [resetBit_of_get hg hw, hs]; rfl
  · rw [setBit_of_get hg hw, hs]; rfl

end Sys2Proof.Machine
end

section
/-! SUPPORT. Control and interrupt switches (46_control.md R350 to R354): the state each of the five meanings gives, as the
state writes it makes. None of them makes an access, so none can fail. -/

namespace Sys2Proof.Machine

/-! ### The meanings -/

section
variable (s : State)

theorem exec_nop : exec .nop s = .next (s.setCycles 1) := rfl

theorem exec_halt : exec .halt s = .next ((s.setHalted true).setCycles 1) := rfl

/-- STOP enters the state of HALT; its second byte has no part in it (R352). -/
theorem exec_stop_n8 (n : Byte) : exec (.stop_n8 n) s = exec .halt s := rfl

theorem exec_di : exec .di s = .next (((s.setIME false).setEiDelay false).setCycles 1) := rfl

theorem exec_ei : exec .ei s = .next ((s.setEiDelay true).setCycles 1) := rfl

end

/-! ### The forms -/

/-- Settles O54: NOP writes the count alone, HALT the low-power flag as well, and STOP is HALT for every second byte
(`exec_stop_n8`). -/
theorem controlForms : Obligations.ControlForms := by
  unfold Obligations.ControlForms
  intro s n
  have hhalt : exec .halt s = .next { s with halted := true, cycles := 1 } := exec_halt s
  exact ⟨⟨exec_nop s, rfl⟩, ⟨hhalt, rfl⟩, ⟨(exec_stop_n8 s n).trans hhalt, rfl⟩⟩

/-- Settles O55: DI clears IME and the pending enable (`exec_di`), EI sets the pending enable and leaves IME (`exec_ei`). -/
theorem interruptSwitchForms : Obligations.InterruptSwitchForms := by
  unfold Obligations.InterruptSwitchForms
  exact fun s => ⟨⟨exec_di s, rfl⟩, ⟨exec_ei s, rfl⟩⟩

end Sys2Proof.Machine
end

section
/-! SUPPORT. How a step ends (60_exceptions.md R370 to R377, R385): the register writes and bus accesses of a meaning, of
the fetch and of the interrupt logic are followed once, and which errors can come of them, and what they leave of IME, of
the pending enable and of the devices, is read off the chain. -/

namespace Sys2Proof.Machine

/-! ### The errors of a step -/

/-- The errors that can end a step begun in `s`: a rejected access, which no reference device gives (R377), and one of the
eleven illegal opcodes. -/
def Fault.possibleIn (f : Fault) (s : State) : Prop :=
  match f with
  | .memoryAccess _ _ => ¬ s.referenceDevices
  | .illegalOpcode op => op ∈ illegalOpcodes

/-- What no access and no write of a register of 10_state.md R30 changes: IME, the pending enable, and which devices are
attached. -/
def State.standing (s : State) : Bool × Bool × CartDevice × IoDevice × VideoAccess × WramxBank :=
  (s.ime, s.eiDelay, s.cart, s.io, s.video, s.wramx)

section
variable {s t : State} (h : t.standing = s.standing)
include h

theorem ime_of_standing : t.ime = s.ime := congrArg (·.1) h

theorem eiDelay_of_standing : t.eiDelay = s.eiDelay := congrArg (·.2.1) h

theorem referenceDevices_of_standing (hs : s.referenceDevices) : t.referenceDevices := by
  obtain ⟨hc, hi, hv, hw⟩ := hs
  simp only [State.standing, Prod.mk.injEq] at h
  obtain ⟨-, -, hc', hi', hv', hw'⟩ := h
  exact ⟨hc'.trans hc, hi'.trans hi, hv'.trans hv, hw'.trans hw⟩

theorem Fault.possibleIn_of_standing {f : Fault} (hf : f.possibleIn t) : f.possibleIn s := by
  cases f with
  | memoryAccess a k => exact fun hs => hf (referenceDevices_of_standing h hs)
  | illegalOpcode op => exact hf

end

/-! ### Sequences of register writes and accesses -/

/-- `x` is run in `s`, and `final` is the state in its result: if it completes, all of `s.standing` is kept, and if it
fails, the error is possible in `s`. -/
structure Runs {α : Type} (final : α → State) (s : State) (x : Except Fault α) : Prop where
  ok : ∀ a, x = .ok a → (final a).standing = s.standing
  error : ∀ f, x = .error f → f.possibleIn s

/-! One rule for each way to go on, then one per state operation. -/

namespace Runs
variable {α β : Type} {final : α → State} {final' : β → State} {s t : State} {x : Except Fault α}

theorem of_ok {a : α} (h : (final a).standing = s.standing) : Runs final s (.ok a) :=
  ⟨fun _ hb => by cases hb; exact h, fun _ hf => nomatch hf⟩

/-- A write of registers before the run. -/
theorem of_standing (h : t.standing = s.standing) (hx : Runs final t x) : Runs final s x :=
  ⟨fun a ha => (hx.ok a ha).trans h, fun f hf => Fault.possibleIn_of_standing h (hx.error f hf)⟩

theorem bind {k : α → Except Fault β} (hx : Runs final s x) (hk : ∀ a, Runs final' (final a) (k a)) :
    Runs final' s (x >>= k) where
  ok b hb := by
    obtain ⟨a, ha, hb⟩ := bind_eq_ok.1 hb
    exact ((hk a).ok b hb).trans (hx.ok a ha)
  error f hf := by
    obtain hf | ⟨a, ha, hf⟩ := bind_eq_error.1 hf
    · exact hx.error f hf
    · exact Fault.possibleIn_of_standing (hx.ok a ha) ((hk a).error f hf)

/-- A write of registers after the run. -/
theorem write {k : α → β} (hx : Runs final s x) (hk : ∀ a, (final' (k a)).standing = (final a).standing) :
    Runs final' s (x >>= fun a => .ok (k a)) :=
  hx.bind fun a => .of_ok (hk a)

theorem ite {c : Bool} {y : Except Fault α} (hx : Runs final s x) (hy : Runs final s y) :
    Runs final s (if c then x else y) := by
  cases c
  · exact hy
  · exact hx

theorem busRead (a : Word) (s : State) : Runs Prod.snd s (busRead a s) where
  ok p hp := by rw [busRead_ok hp]; rfl
  error f hf := by
    rw [busRead_error hf]
    intro hs
    obtain ⟨w, hw⟩ := busRead_reference hs a
    cases hw.symm.trans hf

theorem busWrite (a : Word) (v : Byte) (s : State) : Runs id s (busWrite a v s) where
  ok t ht := by rw [(busWrite_ok ht).1]; rfl
  error f hf := by
    rw [busWrite_error hf]
    intro hs
    obtain ⟨t, ht, -⟩ := busWrite_reference hs a v
    cases ht.symm.trans hf

end Runs

theorem busPeek_reference {s : State} (h : s.referenceDevices) (a : Word) : ∃ w, busPeek a s = .ok w := by
  obtain ⟨hg, hx⟩ := referenceDevices_access h a
  cases ha : s.accessOf a with
  | ram => exact ⟨_, (bus_of_ram ha).2.1⟩
  | rom => exact ⟨_, (bus_of_rom ha).2.1⟩
  | sentinel => exact ⟨_, (bus_of_sentinel ha).2.1⟩
  | guarded ks => exact absurd ha (hg ks)
  | external => exact absurd ha hx

namespace Runs
variable {s : State}

/-- A peek gives no next state. -/
theorem busPeek (a : Word) (s : State) : Runs (fun _ => s) s (busPeek a s) where
  ok _ _ := rfl
  error f hf := by
    rw [busPeek_error hf]
    intro hs
    obtain ⟨w, hw⟩ := busPeek_reference hs a
    cases hw.symm.trans hf

theorem r8get (x : R8) (s : State) : Runs Prod.snd s (r8get x s) := by
  cases x with
  | atHL => exact busRead s.hl s
  | _ => exact of_ok rfl

theorem r8set (x : R8) (v : Byte) (s : State) : Runs id s (r8set x v s) := by
  cases x with
  | atHL => exact busWrite s.hl v s
  | _ => exact of_ok rfl

theorem push16 (v : Word) (s : State) : Runs id s (push16 v s) :=
  .of_standing (t := s.setSP (s.sp - 1)) rfl ((busWrite _ _ _).bind fun u =>
    .of_standing (t := u.setSP (u.sp - 1)) rfl (busWrite _ _ _))

theorem pop16 (s : State) : Runs Prod.snd s (pop16 s) :=
  (busRead _ _).bind fun p => .of_standing (t := p.2.setSP (p.2.sp + 1)) rfl ((busRead _ _).write fun _ => rfl)

theorem fetch8 (s : State) : Runs Prod.snd s (fetch8 s) := (busRead _ _).write fun _ => rfl

theorem fetchBytes (n : Nat) (s : State) : Runs Prod.snd s (fetchBytes n s) := by
  induction n generalizing s with
  | zero => exact of_ok rfl
  | succ n ih => exact (fetch8 s).bind fun p => (ih p.2).write fun _ => rfl

theorem fetchInstr (s : State) : Runs Prod.snd s (fetchInstr s) :=
  (fetch8 s).bind fun p => (fetchBytes _ p.2).write fun _ => rfl

theorem irqPending (s : State) : Runs (fun _ => s) s (irqPending s) :=
  (busPeek _ s).bind fun _ => (busPeek _ s).write fun _ => rfl

theorem pendingAtStart (s : State) : Runs (fun _ => s) s (pendingAtStart s) :=
  .ite (irqPending s) (of_ok rfl)

/-- The entry clears IME and the pending enable before its accesses (R382). -/
theorem interruptEntry (p : Byte) (s : State) :
    Runs id ((s.setIME false).setEiDelay false) (interruptEntry p s) :=
  (push16 _ _).bind fun t => (busRead _ t).bind fun q => (busWrite _ _ q.2).write fun _ => rfl

theorem callIf (cc : Cond) (n : Word) (s : State) : Runs id s (callIf cc n s) :=
  .ite ((push16 _ s).write fun _ => rfl) (of_ok rfl)

theorem retIf (cc : Cond) (s : State) : Runs id s (retIf cc s) :=
  .ite ((pop16 s).write fun _ => rfl) (of_ok rfl)

theorem storeSP (n : Word) (s : State) : Runs id s (storeSP n s) :=
  (busWrite _ _ s).bind fun t => (busWrite _ _ t).write fun _ => rfl

end Runs

/-! ### The forms -/

theorem r16set_standing (rp : R16) (v : Word) (s : State) : (r16set rp v s).standing = s.standing := by cases rp <;> rfl

theorem r16stkSet_standing (rs : R16Stk) (v : Word) (s : State) : (r16stkSet rs v s).standing = s.standing := by
  cases rs <;> rfl

theorem r16mem_standing (m : R16Mem) (s : State) : (r16mem m s).2.standing = s.standing := by cases m <;> rfl

theorem aluEffect_standing (op : AluOp) (v : Byte) (s : State) : (aluEffect op v s).standing = s.standing := by
  rw [(aluEffect_spec op v s).1]
  rfl

/-- `i` ends as an instruction may: it has a meaning, its errors are possible, and it leaves IME and the pending enable
unless it is one of those that switch them. -/
structure EndsWell (i : Instr) : Prop where
  refused : ∀ s r, exec i s ≠ .refused r
  fault : ∀ s f, exec i s = .fault f → f.possibleIn s
  ime : i ≠ .di → i ≠ .reti → ∀ s t, exec i s = .next t → t.ime = s.ime
  eiDelay : i ≠ .di → i ≠ .ei → ∀ s t, exec i s = .next t → t.eiDelay = s.eiDelay

namespace EndsWell
variable {i : Instr}

/-- A meaning that leaves IME and the pending enable. -/
theorem of_runs {m : State → Except Fault State} (he : ∀ s, exec i s = outcome (m s)) (hm : ∀ s, Runs id s (m s)) :
    EndsWell i where
  refused s _ h := outcome_ne_refused ((he s).symm.trans h)
  fault s f h := (hm s).error f (outcome_eq_fault.1 ((he s).symm.trans h))
  ime _ _ s t h := ime_of_standing ((hm s).ok t (outcome_eq_next.1 ((he s).symm.trans h)))
  eiDelay _ _ s t h := eiDelay_of_standing ((hm s).ok t (outcome_eq_next.1 ((he s).symm.trans h)))

/-- A meaning without an access. -/
theorem of_standing {g : State → State} (he : ∀ s, exec i s = outcome (.ok (g s)))
    (hg : ∀ s, (g s).standing = s.standing) : EndsWell i :=
  of_runs he fun s => .of_ok (hg s)

/-- A meaning that reads an 8-bit operand and then writes registers. -/
theorem of_r8get {x : R8} {g : Byte × State → State} (he : ∀ s, exec i s = outcome (r8get x s >>= fun p => .ok (g p)))
    (hg : ∀ p, (g p).standing = p.2.standing) : EndsWell i :=
  of_runs he fun s => (Runs.r8get x s).write hg

/-- A meaning that reads an 8-bit operand, writes one, and then registers. -/
theorem of_r8set {src dst : R8} {w : Byte × State → Byte} {g : Byte × State → State → State}
    (he : ∀ s, exec i s = outcome (r8get src s >>= fun p => r8set dst (w p) p.2 >>= fun u => .ok (g p u)))
    (hg : ∀ p u, (g p u).standing = u.standing) : EndsWell i :=
  of_runs he fun s => (Runs.r8get src s).bind fun p => (Runs.r8set dst (w p) p.2).write (hg p)

/-- A meaning that reads one byte at an address and then writes registers. -/
theorem of_busRead {addr : State → Word} {g : Byte × State → State}
    (he : ∀ s, exec i s = outcome (busRead (addr s) s >>= fun p => .ok (g p)))
    (hg : ∀ p, (g p).standing = p.2.standing) : EndsWell i :=
  of_runs he fun s => (Runs.busRead (addr s) s).write hg

/-- A meaning that writes one byte at an address and then registers. -/
theorem of_busWrite {addr : State → Word} {v : State → Byte} {g : State → State}
    (he : ∀ s, exec i s = outcome (busWrite (addr s) (v s) s >>= fun u => .ok (g u)))
    (hg : ∀ u, (g u).standing = u.standing) : EndsWell i :=
  of_runs he fun s => (Runs.busWrite (addr s) (v s) s).write hg

/-- A meaning that pushes a word and then writes registers. -/
theorem of_push16 {v : State → Word} {g : State → State}
    (he : ∀ s, exec i s = outcome (push16 (v s) s >>= fun u => .ok (g u))) (hg : ∀ u, (g u).standing = u.standing) :
    EndsWell i :=
  of_runs he fun s => (Runs.push16 (v s) s).write hg

/-- A meaning that pops a word and then writes registers. -/
theorem of_pop16 {g : Word × State → State} (he : ∀ s, exec i s = outcome (pop16 s >>= fun p => .ok (g p)))
    (hg : ∀ p, (g p).standing = p.2.standing) : EndsWell i :=
  of_runs he fun s => (Runs.pop16 s).write hg

theorem di : EndsWell .di where
  refused s _ h := nomatch (exec_di s).symm.trans h
  fault s _ h := nomatch (exec_di s).symm.trans h
  ime hdi := absurd rfl hdi
  eiDelay hdi := absurd rfl hdi

theorem ei : EndsWell .ei where
  refused s _ h := nomatch (exec_ei s).symm.trans h
  fault s _ h := nomatch (exec_ei s).symm.trans h
  ime _ _ s t h := by cases (exec_ei s).symm.trans h; rfl
  eiDelay _ hei := absurd rfl hei

theorem reti : EndsWell .reti where
  refused s _ h := outcome_ne_refused (x := retInterrupt s) h
  fault s f h := by
    have hf : retInterrupt s = .error f := outcome_eq_fault.1 h
    rw [retInterrupt_eq] at hf
    obtain hf | ⟨p, -, hf⟩ := bind_eq_error.1 hf
    · exact (Runs.pop16 s).error f hf
    · cases hf
  ime _ hreti := absurd rfl hreti
  eiDelay _ _ s t h := by
    have ht : retInterrupt s = .ok t := outcome_eq_next.1 h
    rw [retInterrupt_eq] at ht
    obtain ⟨p, hp, ht⟩ := bind_eq_ok.1 ht
    cases ht
    have hpop : p.2.eiDelay = s.eiDelay := eiDelay_of_standing ((Runs.pop16 s).ok p hp)
    exact hpop

theorem illegal (h : ∃ op ∈ illegalOpcodes, ∀ s, exec i s = .fault (.illegalOpcode op)) : EndsWell i := by
  obtain ⟨op, hop, he⟩ := h
  exact {
    refused := fun s r h => nomatch (he s).symm.trans h
    fault := fun s f h => by cases (he s).symm.trans h; exact hop
    ime := fun _ _ s t h => nomatch (he s).symm.trans h
    eiDelay := fun _ _ s t h => nomatch (he s).symm.trans h }

end EndsWell

/-! ### Every instruction -/

theorem endsWell {i : Instr} (hw : WellFormed i) : EndsWell i :=
  Instr.formCases (P := EndsWell)
    (ld := fun _ _ hn => .of_r8set (exec_mkLd hn) fun _ _ => rfl)
    (ldImm := fun dst n => .of_runs (exec_mkLdImm dst n) fun s => (Runs.r8set dst n s).write fun _ => rfl)
    (ldR16 := fun rp n => .of_standing (exec_mkLdR16 rp n) fun s => r16set_standing rp n s)
    (storeMem := fun m => .of_runs (exec_mkStoreMem m) fun s =>
      .of_standing (r16mem_standing m s) ((Runs.busWrite _ _ _).write fun _ => rfl))
    (loadMem := fun m => .of_runs (exec_mkLoadMem m) fun s =>
      .of_standing (r16mem_standing m s) ((Runs.busRead _ _).write fun _ => rfl))
    (incR16 := fun rp => .of_standing (exec_mkIncR16 rp) fun s => r16set_standing rp _ s)
    (decR16 := fun rp => .of_standing (exec_mkDecR16 rp) fun s => r16set_standing rp _ s)
    (addHL := fun rp => .of_standing (exec_mkAddHL rp) fun _ => rfl)
    (inc8 := fun x => .of_r8set (exec_mkInc8 x) fun _ _ => rfl)
    (dec8 := fun x => .of_r8set (exec_mkDec8 x) fun _ _ => rfl)
    (jrIf := fun cc e => .of_runs (exec_mkJrIf cc e) fun _ => .ite (.of_ok rfl) (.of_ok rfl))
    (retIf := fun cc => .of_runs (exec_mkRetIf cc) (Runs.retIf cc))
    (jpIf := fun cc n => .of_runs (exec_mkJpIf cc n) fun _ => .ite (.of_ok rfl) (.of_ok rfl))
    (callIf := fun cc n => .of_runs (exec_mkCallIf cc n) (Runs.callIf cc n))
    (pop := fun rs => .of_pop16 (exec_mkPop rs) fun p => r16stkSet_standing rs p.1 p.2)
    (push := fun rs => .of_push16 (exec_mkPush rs) fun _ => rfl)
    (rst := fun k => .of_push16 (exec_mkRst k) fun _ => rfl)
    (alu := fun op x => .of_r8get (exec_mkAlu op x) fun p => aluEffect_standing op p.1 p.2)
    (aluImm := fun op n => .of_standing (exec_mkAluImm op n) fun s => aluEffect_standing op n s)
    (rot := fun k x => .of_r8set (exec_mkRot k x) fun _ _ => rfl)
    (bit := fun b x => .of_r8get (exec_mkBit b x) fun _ => rfl)
    (res := fun b x => .of_r8set (exec_mkRes b x) fun _ _ => rfl)
    (set := fun b x => .of_r8set (exec_mkSet b x) fun _ _ => rfl)
    (ld_atn16_SP' := fun n => .of_runs (fun _ => rfl) (Runs.storeSP n))
    (stop_n8' := fun _ => .of_standing (fun _ => rfl) fun _ => rfl)
    (jr_e8' := fun _ => .of_standing (fun _ => rfl) fun _ => rfl)
    (jp_n16' := fun _ => .of_standing (fun _ => rfl) fun _ => rfl)
    (call_n16' := fun _ => .of_push16 (fun _ => rfl) fun _ => rfl)
    (ldh_atn8_A' := fun n => .of_busWrite (addr := fun _ => ldhAddr n) (fun _ => rfl) fun _ => rfl)
    (add_SP_e8' := fun _ => .of_standing (fun _ => rfl) fun _ => rfl)
    (ld_atn16_A' := fun n => .of_busWrite (addr := fun _ => n) (fun _ => rfl) fun _ => rfl)
    (ldh_A_atn8' := fun n => .of_busRead (addr := fun _ => ldhAddr n) (fun _ => rfl) fun _ => rfl)
    (ld_HL_SPe8' := fun _ => .of_standing (fun _ => rfl) fun _ => rfl)
    (ld_A_atn16' := fun n => .of_busRead (addr := fun _ => n) (fun _ => rfl) fun _ => rfl)
    (nop' := .of_standing (fun _ => rfl) fun _ => rfl)
    (rlca' := .of_standing (fun _ => rfl) fun _ => rfl)
    (rrca' := .of_standing (fun _ => rfl) fun _ => rfl)
    (rla' := .of_standing (fun _ => rfl) fun _ => rfl)
    (rra' := .of_standing (fun _ => rfl) fun _ => rfl)
    (daa' := .of_standing (fun _ => rfl) fun _ => rfl)
    (cpl' := .of_standing (fun _ => rfl) fun _ => rfl)
    (scf' := .of_standing (fun _ => rfl) fun _ => rfl)
    (ccf' := .of_standing (fun _ => rfl) fun _ => rfl)
    (halt' := .of_standing (fun _ => rfl) fun _ => rfl)
    (ret' := .of_pop16 (fun _ => rfl) fun _ => rfl)
    (reti' := .reti)
    (ldh_atC_A' := .of_busWrite (addr := fun s => ldhAddr s.C) (fun _ => rfl) fun _ => rfl)
    (jp_HL' := .of_standing (fun _ => rfl) fun _ => rfl)
    (ldh_A_atC' := .of_busRead (addr := fun s => ldhAddr s.C) (fun _ => rfl) fun _ => rfl)
    (di' := .di)
    (ld_SP_HL' := .of_standing (fun _ => rfl) fun _ => rfl)
    (ei' := .ei)
    (illegal := fun _ => .illegal)
    i hw

/-! ### Every step -/

section
variable {b : Bool} {o : Out}

theorem afterInstr_eq_next {t : State} : afterInstr b o = .next t ↔ ∃ u, o = .next u ∧ promoteEi b u = t := by
  cases o <;> simp [afterInstr]

theorem afterInstr_eq_fault {f : Fault} : afterInstr b o = .fault f ↔ o = .fault f := by
  cases o <;> simp [afterInstr]

theorem afterInstr_eq_refused {r : Refusal} : afterInstr b o = .refused r ↔ o = .refused r := by
  cases o <;> simp [afterInstr]

end

/-- The ways a step can go, whatever its outcome (30_encoding.md R110): the interrupt test fails, the machine idles, an
interrupt is taken, the fetch fails, or the instruction runs. -/
theorem step_ways (s : State) :
    (∃ f, pendingAtStart s = .error f ∧ step s = .fault f) ∨ step s = .next (idle s) ∨
      (∃ p, step s = outcome (interruptEntry p (s.setHalted false))) ∨
      (∃ f, fetchInstr (s.setHalted false) = .error f ∧ step s = .fault f) ∨
      ∃ i s1, fetchInstr (s.setHalted false) = .ok (i, s1) ∧ step s = afterInstr s.eiDelay (exec i s1) := by
  generalize ho : step s = o
  unfold step stepWith at ho
  split at ho
  · next f hp => exact .inl ⟨f, hp, ho.symm⟩
  · next p hp =>
    split at ho
    · exact .inr (.inl ho.symm)
    · split at ho
      · exact .inr (.inr (.inl ⟨p, ho.symm⟩))
      · split at ho
        · next f hf => exact .inr (.inr (.inr (.inl ⟨f, hf, ho.symm⟩)))
        · next i s1 hf => exact .inr (.inr (.inr (.inr ⟨i, s1, hf, ho.symm⟩)))

theorem step_ne_refused (s : State) (r : Refusal) : step s ≠ .refused r := by
  intro hr
  rcases step_ways s with ⟨f, -, h⟩ | h | ⟨p, h⟩ | ⟨f, -, h⟩ | ⟨i, s1, hf, h⟩ <;> rw [h] at hr
  · cases hr
  · cases hr
  · exact outcome_ne_refused hr
  · cases hr
  · exact (endsWell (fetchInstr_wellFormed hf)).refused s1 r (afterInstr_eq_refused.1 hr)

theorem step_fault_possible {s : State} {f : Fault} (h : step s = .fault f) : f.possibleIn s := by
  rcases step_ways s with ⟨g, hp, hs⟩ | hs | ⟨p, hs⟩ | ⟨g, hf, hs⟩ | ⟨i, s1, hf, hs⟩ <;> rw [hs] at h
  · cases h
    exact (Runs.pendingAtStart s).error f hp
  · cases h
  · exact (Runs.interruptEntry p (s.setHalted false)).error f (outcome_eq_fault.1 h)
  · cases h
    exact (Runs.fetchInstr (s.setHalted false)).error f hf
  · have hs1 : s1.standing = s.standing := (Runs.fetchInstr (s.setHalted false)).ok (i, s1) hf
    have he : exec i s1 = .fault f := afterInstr_eq_fault.1 h
    exact Fault.possibleIn_of_standing hs1 ((endsWell (fetchInstr_wellFormed hf)).fault s1 f he)

/-- Settles O13: no instruction is refused (`step_ne_refused`), and every error is possible (`step_fault_possible`). -/
theorem stepOutcomes : Obligations.StepOutcomes := by
  unfold Obligations.StepOutcomes
  refine ⟨fun s => ?_, fun _ _ _ => busRead_error, fun _ _ _ _ => busWrite_error, fun _ _ _ => busPeek_error⟩
  cases h : step s with
  | next t => exact .inl ⟨t, rfl⟩
  | refused r => exact absurd h (step_ne_refused s r)
  | fault f =>
    cases f with
    | memoryAccess a k => exact .inr (.inl ⟨a, k, rfl⟩)
    | illegalOpcode op => exact .inr (.inr ⟨op, step_fault_possible h, rfl⟩)

/-! ### The reference devices -/

theorem StoresWithin.referenceDevices {A : Word → Prop} {s t : State} (h : StoresWithin A s t)
    (hs : s.referenceDevices) : t.referenceDevices := by
  obtain ⟨hc, hi, hv, hw⟩ := h.devices
  obtain ⟨hc', hi', hv', hw'⟩ := hs
  exact ⟨hc.trans hc', hi.trans hi', hv.trans hv', hw.trans hw'⟩

theorem step_referenceDevices {s t : State} (h : step s = .next t) (hs : s.referenceDevices) : t.referenceDevices := by
  rcases step_cases h with ⟨p, -, -, -, rfl⟩ | ⟨p, -, -, -, he⟩ | ⟨-, i, s1, u, hf, he, rfl⟩
  · exact hs
  · exact referenceDevices_of_standing ((Runs.interruptEntry p (s.setHalted false)).ok t he) hs
  · have hs1 : s1.referenceDevices := referenceDevices_of_standing ((Runs.fetchInstr _).ok (i, s1) hf) hs
    have hu : u.referenceDevices := (storesFramed (fetchInstr_wellFormed hf) s1 u he).referenceDevices hs1
    rcases promoteEi_cases s.eiDelay u with e | e <;> rw [e] <;> exact hu

/-- Settles O14: reference devices accept every access (`busRead_reference` and its like), so no access ends a step
(`step_fault_possible`), and no step detaches one (`step_referenceDevices`). -/
theorem referenceDevicesNeverReject : Obligations.ReferenceDevicesNeverReject := by
  unfold Obligations.ReferenceDevicesNeverReject
  refine fun s hs => ⟨fun a v => ⟨busRead_reference hs a, (busWrite_reference hs a v).imp fun _ ht => ht.1,
    busPeek_reference hs a⟩, fun f h => ?_, fun t h => step_referenceDevices h hs⟩
  have hf : f.possibleIn s := step_fault_possible h
  cases f with
  | memoryAccess a k => exact absurd hs hf
  | illegalOpcode op => exact ⟨op, hf, rfl⟩

/-! ### The call of `step` -/

/-- Settles O12: the state after a call and its result are read off the outcome; a second call is in the state of the
first (`stateAfterCall_of_fault`). -/
theorem failedStepCommitsNothing : Obligations.FailedStepCommitsNothing := by
  unfold Obligations.FailedStepCommitsNothing
  refine ⟨fun s f h => ?_, fun s t h => ⟨by rw [stateAfterCall, h], by rw [stepResult, h]⟩⟩
  have hs : stateAfterCall s = s := stateAfterCall_of_fault h
  exact ⟨hs, by rw [hs, h], by rw [stepResult, h]⟩

end Sys2Proof.Machine
end

section
/-! SUPPORT. Interrupts over a whole step (60_exceptions.md R378 to R388): the idle step, the wake, the entry, the enable
that EI leaves pending, and the first step after reset. -/

namespace Sys2Proof.Machine

/-! ### Runs -/

theorem run_succ_of_next {M : Host.Core} {s t : M.State} (h : M.step s = .next t) (n : Nat) :
    M.run (n + 1) s = M.run n t := by
  rw [Host.Core.run, h]

/-! ### The idle step and the wake -/

section
variable {s : State}

theorem pendingAtStart_of_halted (h : s.halted = true) : pendingAtStart s = irqPending s := by
  rw [pendingAtStart, h]
  rfl

/-- A running machine makes no interrupt test while IME is clear (R380). -/
theorem runsInstruction_of_not_ime (hi : s.ime = false) (hh : s.halted = false) : runsInstruction s := by
  refine ⟨0, ?_, fun h => ?_, fun _ => rfl⟩
  · rw [pendingAtStart, hh, hi]
    rfl
  · rw [hh] at h
    contradiction

/-- A pending interrupt wakes the machine, and while IME is clear nothing takes it (R388). -/
theorem runsInstruction_of_wake {p : Byte} (hh : s.halted = true) (hi : s.ime = false) (hp : irqPending s = .ok p)
    (h0 : p ≠ 0) : runsInstruction s := by
  refine ⟨p, (pendingAtStart_of_halted hh).trans hp, fun _ => h0, fun h => ?_⟩
  rw [hi] at h
  contradiction

theorem step_idle (hh : s.halted = true) (hp : irqPending s = .ok 0) : step s = .next { s with cycles := 1 } := by
  have hidle : (s.halted && (0 : Byte) == 0) = true := by rw [hh]; rfl
  unfold step stepWith
  rw [pendingAtStart_of_halted hh, hp]
  dsimp only
  rw [if_pos hidle]
  rfl

/-- A woken machine does what it would do had it been running (R388). -/
theorem step_wake {p : Byte} (hh : s.halted = true) (hp : irqPending s = .ok p) (h0 : p ≠ 0) :
    step s = step (s.setHalted false) := by
  cases hi : s.ime with
  | true =>
    rw [step_entry hi hp h0, step_entry (s := s.setHalted false) hi hp h0]
    rfl
  | false =>
    rw [step_runs (runsInstruction_of_wake hh hi hp h0), step_runs (s := s.setHalted false)
      (runsInstruction_of_not_ime hi rfl)]
    rfl

/-- An idle step leaves a state that idles, so any number of calls leaves it. -/
theorem run_idle (hh : s.halted = true) (hp : irqPending s = .ok 0) (n : Nat) :
    Host.Core.run Sys2Proof.core (n + 1) s = .next ({ s with cycles := 1 } : State) := by
  induction n generalizing s with
  | zero => exact run_succ_of_next (M := Sys2Proof.core) (step_idle hh hp) 0
  | succ n ih => exact (run_succ_of_next (M := Sys2Proof.core) (step_idle hh hp) (n + 1)).trans (ih hh hp)

end

/-- Settles O58: the idle step (`step_idle`) leads to a state that idles (`run_idle`), and the wake is `step_wake`. -/
theorem idleAndWake : Obligations.IdleAndWake := by
  unfold Obligations.IdleAndWake
  exact ⟨fun s hh hp => ⟨step_idle hh hp, run_idle hh hp⟩, fun s p hh hp h0 =>
    ⟨step_wake hh hp h0, fun hi => runsInstruction_of_wake hh hi hp h0⟩⟩

/-! ### The first step after reset -/

theorem afterInstr_false (o : Out) : afterInstr false o = o := by cases o <;> rfl

/-- Settles O2: IME and `halted` are clear after construction (`runsInstruction_of_not_ime`), and no enable is pending. -/
theorem firstStepAfterReset : Obligations.FirstStepAfterReset := by
  unfold Obligations.FirstStepAfterReset
  intro mem cart io video wramx ext s
  have hr : runsInstruction s := runsInstruction_of_not_ime rfl rfl
  have hh : s.setHalted false = s := rfl
  have he : s.eiDelay = false := rfl
  refine ⟨hr, rfl, rfl, ?_⟩
  rw [step_runs hr, hh, he]
  cases fetchInstr s with
  | error f => rfl
  | ok q => exact afterInstr_false _

/-! ### The enable of EI -/

section
variable {s t : State}

theorem exec_di_next (h : exec .di s = .next t) : t.ime = false ∧ t.eiDelay = false := by
  cases (exec_di s).symm.trans h
  exact ⟨rfl, rfl⟩

theorem exec_ei_next (h : exec .ei s = .next t) : t.eiDelay = true := by
  cases (exec_ei s).symm.trans h
  rfl

theorem exec_reti_next (h : exec .reti s = .next t) : t.ime = true := by
  have ht : retInterrupt s = .ok t := outcome_eq_next.1 h
  rw [retInterrupt_eq] at ht
  obtain ⟨p, -, ht⟩ := bind_eq_ok.1 ht
  cases ht
  rfl

/-- No instruction but DI drops a pending enable (R385): EI sets it again, the others leave it. -/
theorem exec_eiDelay_of_pending {i : Instr} (hw : WellFormed i) (h : exec i s = .next t) (hs : s.eiDelay = true)
    (hdi : i ≠ .di) : t.eiDelay = true := by
  by_cases hei : i = .ei
  · exact exec_ei_next (hei ▸ h)
  · rw [(endsWell hw).eiDelay hdi hei s t h, hs]

theorem exec_eiDelay_iff {i : Instr} (hw : WellFormed i) (h : exec i s = .next t) (hs : s.eiDelay = false) :
    t.eiDelay = true ↔ i = .ei := by
  refine ⟨fun ht => ?_, fun hei => exec_ei_next (hei ▸ h)⟩
  by_contra hei
  by_cases hdi : i = .di
  · subst hdi; simp [(exec_di_next h).2] at ht
  · simp [(endsWell hw).eiDelay hdi hei s t h, hs] at ht

/-- The instruction of a step, and the end of the step after it. -/
theorem step_runs_next {s1 : State} {i : Instr} (hr : runsInstruction s)
    (hf : fetchInstr (s.setHalted false) = .ok (i, s1)) (h : step s = .next t) :
    ∃ u, exec i s1 = .next u ∧ promoteEi s.eiDelay u = t := by
  rw [step_runs hr, hf] at h
  exact afterInstr_eq_next.1 h

theorem promoteEi_pending (h : s.eiDelay = true) : promoteEi true s = { s with ime := true, eiDelay := false } := by
  rw [promoteEi, h]
  rfl

theorem promoteEi_not_pending (h : s.eiDelay = false) (b : Bool) : promoteEi b s = s := by
  rw [promoteEi, h, Bool.and_false]
  rfl

theorem promoteEi_false (s : State) : promoteEi false s = s := rfl

end

section
variable {s s1 t : State} {i : Instr} (hr : runsInstruction s) (hf : fetchInstr (s.setHalted false) = .ok (i, s1))
  (h : step s = .next t)
include hr hf h

/-- A pending enable takes effect at the end of the step, unless DI drops it. -/
theorem step_of_pending (hs : s.eiDelay = true) :
    t.eiDelay = false ∧ (i = .di → t.ime = false) ∧ (i ≠ .di → t.ime = true) := by
  obtain ⟨u, he, ht⟩ := step_runs_next hr hf h
  have hs1 : s1.eiDelay = true := (eiDelay_of_standing ((Runs.fetchInstr _).ok _ hf)).trans hs
  rw [hs] at ht
  by_cases hdi : i = .di
  · obtain ⟨hime, hei⟩ := exec_di_next (hdi ▸ he)
    rw [← ht, promoteEi_not_pending hei]
    exact ⟨hei, fun _ => hime, fun hn => absurd hdi hn⟩
  · have hu : u.eiDelay = true := exec_eiDelay_of_pending (fetchInstr_wellFormed hf) he hs1 hdi
    rw [← ht, promoteEi_pending hu]
    exact ⟨rfl, fun hd => absurd hd hdi, fun _ => rfl⟩

/-- Without a pending enable the step ends as its instruction does. -/
theorem step_of_not_pending (hs : s.eiDelay = false) :
    (t.eiDelay = true ↔ i = .ei) ∧ (i = .di → t.ime = false) ∧ (i = .reti → t.ime = true) ∧
      (i ≠ .di → i ≠ .reti → t.ime = s.ime) := by
  obtain ⟨u, he, ht⟩ := step_runs_next hr hf h
  have hs1 : s1.standing = s.standing := (Runs.fetchInstr _).ok _ hf
  have hw : WellFormed i := fetchInstr_wellFormed hf
  rw [hs, promoteEi_false] at ht
  subst ht
  exact ⟨exec_eiDelay_iff hw he ((eiDelay_of_standing hs1).trans hs), fun hdi => (exec_di_next (hdi ▸ he)).1,
    fun hreti => exec_reti_next (hreti ▸ he),
    fun hdi hreti => ((endsWell hw).ime hdi hreti s1 u he).trans (ime_of_standing hs1)⟩

end

/-- Settles O56: an instruction's step ends by `step_of_pending` or `step_of_not_pending`, an idle step changes the count
alone, and the entry clears both before its accesses (`Runs.interruptEntry`). -/
theorem enableDelay : Obligations.EnableDelay := by
  unfold Obligations.EnableDelay
  refine ⟨fun s s1 t i hr hf h => ⟨step_of_pending hr hf h, step_of_not_pending hr hf h⟩, fun s t hh hp h => ?_,
    fun s t p hi hp h0 h => ?_⟩
  · cases (step_idle hh hp).symm.trans h
    exact ⟨rfl, rfl⟩
  · have ht := (Runs.interruptEntry p _).ok t (outcome_eq_next.1 ((step_entry hi hp h0).symm.trans h))
    exact ⟨ime_of_standing ht, eiDelay_of_standing ht⟩

/-! ### The entry -/

theorem irqPending_eq {s : State} {e r : Byte} (he : busPeek ieAddr s = .ok e) (hr : busPeek ifAddr s = .ok r) :
    irqPending s = .ok (e &&& r &&& 0x1F) := by
  rw [irqPending, he, ok_bind, hr, ok_bind]

/-- Only the five defined interrupts are pending (R380). -/
theorem irqPending_and_mask {s : State} {p : Byte} (h : irqPending s = .ok p) : p &&& 0x1F = p := by
  obtain ⟨e, -, h⟩ := bind_eq_ok.1 h
  obtain ⟨r, -, h⟩ := bind_eq_ok.1 h
  cases h
  rw [BitVec.and_assoc, BitVec.and_self]

theorem interruptVector_eq (k : Nat) : interruptVector k = BitVec.ofNat 16 (0x0040 + 8 * k) := by
  rw [interruptVector, BitVec.ofNat_add, BitVec.ofNat_mul]
  rfl

/-- A push in a state with other engine fields. -/
theorem push16_core {w : Word} {s c : State} (h : c = s.withCore c) (hs : c.sp = s.sp) :
    push16 w c = (pushWrites w s).map fun t => { t.withCore c with sp := s.sp - 2 } := by
  rw [push16_eq, pushWrites_core h hs, hs]
  cases pushWrites w s <;> rfl

/-- The state in which an entry pushes PC (R382). -/
def State.entering (s : State) : State := ((s.setHalted false).setIME false).setEiDelay false

/-- The three accesses of an entry, in terms of the state before it: they do not look at what the entry writes between
them. -/
theorem interruptEntry_eq (p : Byte) (s : State) :
    interruptEntry p (s.setHalted false) =
      pushWrites s.pc s >>= fun s1 => busRead ifAddr s1 >>= fun q =>
        busWrite ifAddr (q.1 &&& ~~~(1#8 <<< lowestSetBit p)) q.2 >>= fun s3 =>
          .ok { s3 with ime := false, eiDelay := false, halted := false, sp := s.sp - 2,
                        pc := interruptVector (lowestSetBit p), cycles := 5 } := by
  change (push16 s.pc s.entering >>= _) = _
  rw [push16_core (s := s) (c := s.entering) rfl rfl]
  cases h1 : pushWrites s.pc s with
  | error f => rfl
  | ok s1 =>
    simp only [Except.map, ok_bind]
    rw [busRead_core (s := s1) (c := { s1.withCore s.entering with sp := s.sp - 2 }) rfl]
    cases h2 : busRead ifAddr s1 with
    | error f => rfl
    | ok q =>
      simp only [Except.map, ok_bind]
      rw [busWrite_core (s := q.2) (c := q.2.withCore { s1.withCore s.entering with sp := s.sp - 2 }) rfl]
      cases h3 : busWrite ifAddr (q.1 &&& ~~~(1#8 <<< lowestSetBit p)) q.2 with
      | error f => rfl
      | ok s3 =>
        have hs3 : s3 = { s with mem := s3.mem, ext := s3.ext } := by
          rw [(busWrite_ok h3).1, busRead_ok h2, pushWrites_ok h1]
        rw [hs3]
        rfl

section
variable {s s1 s2 : State} {p v w : Byte} (hi : s.ime = true) (hp : irqPending s = .ok p) (h0 : p ≠ 0)
include hi hp h0

theorem step_entry_eq :
    step s = outcome (pushWrites s.pc s >>= fun s1 => busRead ifAddr s1 >>= fun q =>
      busWrite ifAddr (q.1 &&& ~~~(1#8 <<< lowestSetBit p)) q.2 >>= fun s3 =>
        .ok { s3 with ime := false, eiDelay := false, halted := false, sp := s.sp - 2,
                      pc := interruptVector (lowestSetBit p), cycles := 5 }) := by
  rw [step_entry hi hp h0, interruptEntry_eq]

theorem step_of_entry_push_error {f : Fault} (h1 : pushWrites s.pc s = .error f) : step s = .fault f := by
  rw [step_entry_eq hi hp h0, h1]
  rfl

theorem step_of_entry_read_error {f : Fault} (h1 : pushWrites s.pc s = .ok s1) (h2 : busRead ifAddr s1 = .error f) :
    step s = .fault f := by
  rw [step_entry_eq hi hp h0, h1, ok_bind, h2]
  rfl

/-- The write of IF decides the rest: it fails, or the entry is made. -/
theorem step_of_entry_write (h1 : pushWrites s.pc s = .ok s1) (h2 : busRead ifAddr s1 = .ok (v, s2))
    (hw : ∀ i, i < 8 → w.getLsbD i = if i = lowestSetBit p then false else v.getLsbD i) :
    step s = outcome (busWrite ifAddr w s2 >>= fun s3 =>
      .ok { s3 with ime := false, eiDelay := false, halted := false, sp := s.sp - 2,
                    pc := BitVec.ofNat 16 (0x0040 + 8 * lowestSetBit p), cycles := 5 }) := by
  rw [step_entry_eq hi hp h0, h1, ok_bind, h2, ok_bind, interruptVector_eq]
  dsimp only
  rw [and_not_one_shiftLeft_eq hw]

end

end Sys2Proof.Machine

namespace Sys2Proof
open Machine

/-- Settles O57: the bit is the lowest one pending (`lowestSetBit_spec`), and the step is decided by the accesses of the
entry, one after the other. -/
theorem interruptEntry : Obligations.InterruptEntry := by
  unfold Obligations.InterruptEntry
  refine ⟨fun s e r => irqPending_eq, fun s => runsInstruction_of_not_ime, fun s p hi hp h0 => ?_⟩
  obtain ⟨hk, hset, hlow⟩ := lowestSetBit_spec h0 (irqPending_and_mask hp)
  refine ⟨lowestSetBit p, hk, hset, hlow, fun s1 s2 s3 v w h1 h2 hw h3 => ?_,
    fun f h1 => step_of_entry_push_error hi hp h0 h1, fun s1 f h1 h2 => step_of_entry_read_error hi hp h0 h1 h2,
    fun s1 s2 v w f h1 h2 hw h3 => ?_⟩
  · have hwrite : busWrite ifAddr w s2 = .ok s3 := h3
    rw [step_of_entry_write hi hp h0 h1 h2 hw, hwrite]
    rfl
  · have hwrite : busWrite ifAddr w s2 = .error f := h3
    rw [step_of_entry_write hi hp h0 h1 h2 hw, hwrite]
    rfl

end Sys2Proof
end
